-- ==== Sys2Proof/Word.lean ====
section
/-! DEFINITION. The word types of FXCORE: a register is one 32-bit word (10_state.md R19), a byte of the
host's view is 8 bits (20_memory.md R35), and the screen size registers hold 16 bits (10_state.md R29). -/

namespace Sys2Proof

/-- A register or datapath word, XLEN = 32 bits (00_scope.md R9, R11). -/
abbrev Word := BitVec 32

/-- A screen size, 16 bits (10_state.md R29). -/
abbrev Half := BitVec 16

/-- A byte of the register window as a byte-addressed host views it (20_memory.md R35). -/
abbrev Byte := BitVec 8

/-- The `addr` port: a word offset into the register window, 5 bits (10_state.md R17). -/
abbrev Offset := BitVec 5

end Sys2Proof
end

