-- ==== Sys2Proof/Config.lean ====
section
/-! DEFINITION. The implementation parameters of 00_scope.md R9 that a model takes as arguments
(93_implementation_defined.md section 3). DESIGN CHOICE (safe, log 1): they stand in one record that
State carries and no step writes, so that a statement about every state is a statement about every
choice of them. The default values are in Sys2Proof/Machine/Defaults.lean. -/

namespace Sys2Proof

/-- ATAN2_FN, the arctangent approximation (41_angle.md R79): the default ATAN2_REF of R80 with the constant
ATAN_K of the configuration, or any other total function of the two operands, named by a number. -/
inductive Atan2Fn where
  | ref
  | other (n : Nat)
  deriving DecidableEq, Repr

/-- Every arctangent approximation other than ATAN2_REF, as a free value: total, depending on its
operands alone, canonical in [0, 256) because its result has 8 bits (41_angle.md R79 properties 1 and 2).
Nothing else is known of it, its value at (0, 0) neither. DESIGN CHOICE (safe, log 2): property 3, an
accuracy without an exact bound, is not asked of it. -/
opaque Config.atan2Other : Nat → Word → Word → BitVec 8

/-- The parameters (00_scope.md R9). -/
structure Config where
  /-- SIN_TABLE[0..64] (41_angle.md R74). -/
  sinTable : Vector Word 65
  /-- TAN_SAT, the tangent where the cosine is 0 (41_angle.md R78). -/
  tanSat : Word
  /-- ATAN2_FN (41_angle.md R79). -/
  atan2 : Atan2Fn
  /-- ATAN_K, the curvature constant of ATAN2_REF, an exact integer (41_angle.md R80). -/
  atanK : Int
  /-- K_D2A, a Fix factor approximating 256/360 (41_angle.md R81). -/
  kD2A : Word
  /-- K_A2R, a Fix factor approximating 2 pi / 256 (41_angle.md R83). -/
  kA2R : Word
  /-- DEPTH_MIN, the least depth of projectSimple, a Fix (44_projection.md R123). -/
  depthMin : Word
  /-- RNG_A, the multiplier of the generator, modulo 2^32 (45_random.md R129). -/
  rngA : Word
  /-- RNG_C, the increment of the generator, modulo 2^32 (45_random.md R129). -/
  rngC : Word
  /-- RESET_SEED, the seed after reset (70_reset_and_hazards.md R153). -/
  resetSeed : Word
  deriving DecidableEq, Repr

/-- The exact constraint the spec puts on the parameters: `SIN_TABLE[0] = 0` (41_angle.md R74).
DESIGN CHOICE (safe, log 3): `SIN_TABLE[64]` approximately 65536 has no exact bound and is not asked. -/
def Config.legal (c : Config) : Bool := decide (c.sinTable[0] = 0#32)

end Sys2Proof
end

