-- ==== Sys2Proof/Machine/Defaults.lean ====
section
/-! DEFINITION. The numbers 00_scope.md R9 gives: the default of every parameter, and the fixed values
that are no parameters (93_implementation_defined.md section 3). -/

namespace Sys2Proof.Machine

/-- The 65 default entries of SIN_TABLE as 41_angle.md R74 prints them, eight a row. -/
def defaultSinEntries : List Word :=
  [0, 1608, 3216, 4821, 6424, 8022, 9616, 11204]
  ++ [12785, 14359, 15924, 17479, 19024, 20557, 22078, 23586]
  ++ [25080, 26558, 28020, 29466, 30893, 32303, 33692, 35062]
  ++ [36410, 37736, 39040, 40320, 41576, 42806, 44011, 45190]
  ++ [46341, 47464, 48559, 49624, 50660, 51665, 52639, 53581]
  ++ [54491, 55368, 56212, 57022, 57798, 58538, 59244, 59914]
  ++ [60547, 61145, 61705, 62228, 62714, 63162, 63572, 63944]
  ++ [64277, 64571, 64827, 65043, 65220, 65358, 65457, 65516]
  ++ [65536]

/-- The default SIN_TABLE (41_angle.md R74). -/
def defaultSinTable : Vector Word 65 := ⟨defaultSinEntries.toArray, rfl⟩

/-- Every parameter at the default 00_scope.md R9 states. -/
def defaultConfig : Config where
  sinTable := defaultSinTable
  tanSat := 0x7FFFFFFF#32
  atan2 := .ref
  atanK := 728958
  kD2A := 46603#32
  kA2R := 1608#32
  depthMin := 1#32
  rngA := 1664525#32
  rngC := 1013904223#32
  resetSeed := 0#32

/-- SQRT_ITERS (43_sqrt.md R113). -/
def sqrtIters : Nat := 8

/-- MARGIN, in screen pixels (44_projection.md R121). -/
def margin : Int := 32

/-- SPR_MIN (44_projection.md R124). -/
def sprMin : Int := 1

/-- SPR_MAX (44_projection.md R124). -/
def sprMax : Int := 512

/-- RNG_SHIFT (45_random.md R130). -/
def rngShift : Nat := 16

/-- SCREEN_W_RESET (00_scope.md R9, 10_state.md R23). -/
def screenWReset : Half := 240#16

/-- SCREEN_H_RESET (00_scope.md R9, 10_state.md R23). -/
def screenHReset : Half := 160#16

end Sys2Proof.Machine
end

