-- ==== Sys2Proof/Machine/Arith.lean ====
section
/-! DEFINITION. The arithmetic primitives of 00_scope.md R12 and the FixedPoint helpers of
40_fixed_point.md R57. As there, a helper takes the exact signed values of its operands and answers a
32-bit word; every narrowing is an explicit `wrap32`. -/

namespace Sys2Proof.Machine

/-- `s(w)`, the signed value of a word (00_scope.md R12). -/
def sv (w : Word) : Int := w.toInt

/-- `wrap32(v)`, the word whose value is `v` modulo 2^32 (00_scope.md R12). -/
def wrap32 (v : Int) : Word := BitVec.ofInt 32 v

/-- `v >> n`, the arithmetic shift right: the floor of `v / 2^n` (00_scope.md R12). -/
def sar (v : Int) (n : Nat) : Int := v >>> n

/-- `v << n`, exact (00_scope.md R12). -/
def shl (v : Int) (n : Nat) : Int := v * ((2 ^ n : Nat) : Int)

/-- `tdiv(a, b)`, the quotient truncated toward zero (00_scope.md R12). -/
def tdiv (a b : Int) : Int := Int.tdiv a b

/-- FROMINT_f (40_fixed_point.md R57). -/
def fromIntF (n : Int) : Word := wrap32 (shl n 16)

/-- ADD_f (40_fixed_point.md R57). -/
def addF (a b : Int) : Word := wrap32 (a + b)

/-- SUB_f (40_fixed_point.md R57). -/
def subF (a b : Int) : Word := wrap32 (a - b)

/-- MUL_f: the exact product, shifted right toward negative infinity, then narrowed
(40_fixed_point.md R57). -/
def mulF (a b : Int) : Word := wrap32 (sar (a * b) 16)

/-- DIV_f: 0 for a zero divisor, else the quotient of the exact widened dividend truncated toward zero,
then narrowed (40_fixed_point.md R57). -/
def divF (a b : Int) : Word :=
  if b = 0 then 0#32 else wrap32 (tdiv (shl a 16) b)

/-- FLOOR_f, an exact Int (40_fixed_point.md R57). -/
def floorF (x : Int) : Int := sar x 16

end Sys2Proof.Machine
end

