-- ==== Sys2Proof/Syntax.lean ====
section
/-! DEFINITION. The command set of FXCORE as syntax: one constructor for each row of
spec/opcode_table.json (30_encoding.md R52), its used register fields in the order rd, rs1, rs2, rs3. -/

namespace Sys2Proof

/-- A register number 0 to 15, as every register field of a command names it (30_encoding.md R49). -/
abbrev Reg := Fin 16

/-- A command. A vector or result operand is written as the base register of its group
(30_encoding.md R49, R54); whether the group fits below R15 is checked in WellFormed. -/
inductive Instr where
  /-- FROMINT, opcode 0x01: rd one register, rs1 scalar (40_fixed_point.md R58). -/
  | fromint (rd rs1 : Reg)
  /-- FADD, opcode 0x02: rd one register, rs1 scalar, rs2 scalar (40_fixed_point.md R59). -/
  | fadd (rd rs1 rs2 : Reg)
  /-- FSUB, opcode 0x03: rd one register, rs1 scalar, rs2 scalar (40_fixed_point.md R60). -/
  | fsub (rd rs1 rs2 : Reg)
  /-- FMUL, opcode 0x04: rd one register, rs1 scalar, rs2 scalar (40_fixed_point.md R61). -/
  | fmul (rd rs1 rs2 : Reg)
  /-- FDIV, opcode 0x05: rd one register, rs1 scalar, rs2 scalar (40_fixed_point.md R62). -/
  | fdiv (rd rs1 rs2 : Reg)
  /-- FROUND, opcode 0x06: rd one register, rs1 scalar (40_fixed_point.md R63). -/
  | fround (rd rs1 : Reg)
  /-- FFLOOR, opcode 0x07: rd one register, rs1 scalar (40_fixed_point.md R64). -/
  | ffloor (rd rs1 : Reg)
  /-- FCEIL, opcode 0x08: rd one register, rs1 scalar (40_fixed_point.md R65). -/
  | fceil (rd rs1 : Reg)
  /-- FFRAC, opcode 0x09: rd one register, rs1 scalar (40_fixed_point.md R66). -/
  | ffrac (rd rs1 : Reg)
  /-- FCLAMP, opcode 0x0A: rd one register, rs1 scalar, rs2 scalar, rs3 scalar (40_fixed_point.md R67). -/
  | fclamp (rd rs1 rs2 rs3 : Reg)
  /-- FLERP, opcode 0x0B: rd one register, rs1 scalar, rs2 scalar, rs3 scalar (40_fixed_point.md R68). -/
  | flerp (rd rs1 rs2 rs3 : Reg)
  /-- FCMP, opcode 0x0C: rd one register, rs1 scalar, rs2 scalar (40_fixed_point.md R69). -/
  | fcmp (rd rs1 rs2 : Reg)
  /-- FSQRT, opcode 0x0D: rd one register, rs1 scalar (43_sqrt.md R115). -/
  | fsqrt (rd rs1 : Reg)
  /-- ISQRT, opcode 0x0E: rd one register, rs1 scalar (43_sqrt.md R116). -/
  | isqrt (rd rs1 : Reg)
  /-- SIN, opcode 0x10: rd one register, rs1 scalar (41_angle.md R76). -/
  | sin (rd rs1 : Reg)
  /-- COS, opcode 0x11: rd one register, rs1 scalar (41_angle.md R77). -/
  | cos (rd rs1 : Reg)
  /-- TAN, opcode 0x12: rd one register, rs1 scalar (41_angle.md R78). -/
  | tan (rd rs1 : Reg)
  /-- ATAN2, opcode 0x13: rd one register, rs1 scalar, rs2 scalar (41_angle.md R79). -/
  | atan2 (rd rs1 rs2 : Reg)
  /-- DEG2ANG, opcode 0x14: rd one register, rs1 scalar (41_angle.md R81). -/
  | deg2ang (rd rs1 : Reg)
  /-- ANG2DEG, opcode 0x15: rd one register, rs1 scalar (41_angle.md R82). -/
  | ang2deg (rd rs1 : Reg)
  /-- RAD2ANG, opcode 0x16: rd one register, rs1 scalar (41_angle.md R83). -/
  | rad2ang (rd rs1 : Reg)
  /-- ANG2RAD, opcode 0x17: rd one register, rs1 scalar (41_angle.md R84). -/
  | ang2rad (rd rs1 : Reg)
  /-- RINT, opcode 0x18: rd one register, rs1 scalar (45_random.md R132). -/
  | rint (rd rs1 : Reg)
  /-- RRANGE, opcode 0x19: rd one register, rs1 scalar, rs2 scalar (45_random.md R133). -/
  | rrange (rd rs1 rs2 : Reg)
  /-- RBOOL, opcode 0x1A: rd one register (45_random.md R134). -/
  | rbool (rd : Reg)
  /-- RFIX, opcode 0x1B: rd one register (45_random.md R135). -/
  | rfix (rd : Reg)
  /-- VADD2, opcode 0x20: rd group of 2, rs1 Vector2 base, rs2 Vector2 base (42_vector.md R89). -/
  | vadd2 (rd rs1 rs2 : Reg)
  /-- VADD3, opcode 0x21: rd group of 3, rs1 Vector3 base, rs2 Vector3 base (42_vector.md R90). -/
  | vadd3 (rd rs1 rs2 : Reg)
  /-- VSUB2, opcode 0x22: rd group of 2, rs1 Vector2 base, rs2 Vector2 base (42_vector.md R91). -/
  | vsub2 (rd rs1 rs2 : Reg)
  /-- VSUB3, opcode 0x23: rd group of 3, rs1 Vector3 base, rs2 Vector3 base (42_vector.md R92). -/
  | vsub3 (rd rs1 rs2 : Reg)
  /-- VSCALE2, opcode 0x24: rd group of 2, rs1 Vector2 base, rs2 scalar (42_vector.md R93). -/
  | vscale2 (rd rs1 rs2 : Reg)
  /-- VSCALE3, opcode 0x25: rd group of 3, rs1 Vector3 base, rs2 scalar (42_vector.md R94). -/
  | vscale3 (rd rs1 rs2 : Reg)
  /-- VDIVS2, opcode 0x26: rd group of 2, rs1 Vector2 base, rs2 scalar (42_vector.md R95). -/
  | vdivs2 (rd rs1 rs2 : Reg)
  /-- VDIVS3, opcode 0x27: rd group of 3, rs1 Vector3 base, rs2 scalar (42_vector.md R96). -/
  | vdivs3 (rd rs1 rs2 : Reg)
  /-- VNEG2, opcode 0x28: rd group of 2, rs1 Vector2 base (42_vector.md R97). -/
  | vneg2 (rd rs1 : Reg)
  /-- VNEG3, opcode 0x29: rd group of 3, rs1 Vector3 base (42_vector.md R98). -/
  | vneg3 (rd rs1 : Reg)
  /-- VDOT2, opcode 0x2A: rd one register, rs1 Vector2 base, rs2 Vector2 base (42_vector.md R99). -/
  | vdot2 (rd rs1 rs2 : Reg)
  /-- VDOT3, opcode 0x2B: rd one register, rs1 Vector3 base, rs2 Vector3 base (42_vector.md R100). -/
  | vdot3 (rd rs1 rs2 : Reg)
  /-- VCROSS3, opcode 0x2C: rd group of 3, rs1 Vector3 base, rs2 Vector3 base (42_vector.md R101). -/
  | vcross3 (rd rs1 rs2 : Reg)
  /-- VEQ2, opcode 0x2D: rd one register, rs1 Vector2 base, rs2 Vector2 base (42_vector.md R102). -/
  | veq2 (rd rs1 rs2 : Reg)
  /-- VEQ3, opcode 0x2E: rd one register, rs1 Vector3 base, rs2 Vector3 base (42_vector.md R103). -/
  | veq3 (rd rs1 rs2 : Reg)
  /-- VLENSQ2, opcode 0x30: rd one register, rs1 Vector2 base (42_vector.md R104). -/
  | vlensq2 (rd rs1 : Reg)
  /-- VLENSQ3, opcode 0x31: rd one register, rs1 Vector3 base (42_vector.md R105). -/
  | vlensq3 (rd rs1 : Reg)
  /-- VLEN2, opcode 0x32: rd one register, rs1 Vector2 base (42_vector.md R106). -/
  | vlen2 (rd rs1 : Reg)
  /-- VLEN3, opcode 0x33: rd one register, rs1 Vector3 base (42_vector.md R107). -/
  | vlen3 (rd rs1 : Reg)
  /-- VNORM2, opcode 0x34: rd group of 2, rs1 Vector2 base (42_vector.md R108). -/
  | vnorm2 (rd rs1 : Reg)
  /-- VNORM3, opcode 0x35: rd group of 3, rs1 Vector3 base (42_vector.md R109). -/
  | vnorm3 (rd rs1 : Reg)
  /-- VDIST2, opcode 0x36: rd one register, rs1 Vector2 base, rs2 Vector2 base (42_vector.md R110). -/
  | vdist2 (rd rs1 rs2 : Reg)
  /-- VDIST3, opcode 0x37: rd one register, rs1 Vector3 base, rs2 Vector3 base (42_vector.md R111). -/
  | vdist3 (rd rs1 rs2 : Reg)
  /-- PROJ, opcode 0x38: rd group of 4, rs1 Vector3 base (44_projection.md R122). -/
  | proj (rd rs1 : Reg)
  /-- PROJS, opcode 0x39: rd group of 4, rs1 Vector3 base, rs2 scalar (44_projection.md R123). -/
  | projs (rd rs1 rs2 : Reg)
  /-- SPRSCALE, opcode 0x3A: rd one register, rs1 scalar, rs2 scalar, rs3 scalar (44_projection.md R124). -/
  | sprscale (rd rs1 rs2 rs3 : Reg)
  /-- CMPDEPTH, opcode 0x3B: rd one register, rs1 Vector3 base, rs2 Vector3 base (44_projection.md R125). -/
  | cmpdepth (rd rs1 rs2 : Reg)
  deriving DecidableEq, Repr

end Sys2Proof
end

