-- ==== Sys2Proof/WellFormed.lean ====
section
/-! DEFINITION. Which commands are well formed: every register group they name ends at R15 or below
(10_state.md R20, 30_encoding.md R50 check 4). The other three checks of R50 are about bits a command
of Instr does not have; the decoder makes them. -/

namespace Sys2Proof

/-- The group of `k` registers based at `r` ends at R15 or below: `r + k - 1 <= 15`
(30_encoding.md R50). -/
def groupFits (r : Reg) (k : Nat) : Bool := decide (r.val + k ≤ 16)

/-- The command's register groups all fit (30_encoding.md R50 check 4, operand classes of R52).
A command of scalars alone is always well formed. -/
def Instr.wellFormed : Instr → Bool
  | .fromint _ _ => true
  | .fadd _ _ _ => true
  | .fsub _ _ _ => true
  | .fmul _ _ _ => true
  | .fdiv _ _ _ => true
  | .fround _ _ => true
  | .ffloor _ _ => true
  | .fceil _ _ => true
  | .ffrac _ _ => true
  | .fclamp _ _ _ _ => true
  | .flerp _ _ _ _ => true
  | .fcmp _ _ _ => true
  | .fsqrt _ _ => true
  | .isqrt _ _ => true
  | .sin _ _ => true
  | .cos _ _ => true
  | .tan _ _ => true
  | .atan2 _ _ _ => true
  | .deg2ang _ _ => true
  | .ang2deg _ _ => true
  | .rad2ang _ _ => true
  | .ang2rad _ _ => true
  | .rint _ _ => true
  | .rrange _ _ _ => true
  | .rbool _ => true
  | .rfix _ => true
  | .vadd2 rd rs1 rs2 => groupFits rd 2 && groupFits rs1 2 && groupFits rs2 2
  | .vadd3 rd rs1 rs2 => groupFits rd 3 && groupFits rs1 3 && groupFits rs2 3
  | .vsub2 rd rs1 rs2 => groupFits rd 2 && groupFits rs1 2 && groupFits rs2 2
  | .vsub3 rd rs1 rs2 => groupFits rd 3 && groupFits rs1 3 && groupFits rs2 3
  | .vscale2 rd rs1 _ => groupFits rd 2 && groupFits rs1 2
  | .vscale3 rd rs1 _ => groupFits rd 3 && groupFits rs1 3
  | .vdivs2 rd rs1 _ => groupFits rd 2 && groupFits rs1 2
  | .vdivs3 rd rs1 _ => groupFits rd 3 && groupFits rs1 3
  | .vneg2 rd rs1 => groupFits rd 2 && groupFits rs1 2
  | .vneg3 rd rs1 => groupFits rd 3 && groupFits rs1 3
  | .vdot2 _ rs1 rs2 => groupFits rs1 2 && groupFits rs2 2
  | .vdot3 _ rs1 rs2 => groupFits rs1 3 && groupFits rs2 3
  | .vcross3 rd rs1 rs2 => groupFits rd 3 && groupFits rs1 3 && groupFits rs2 3
  | .veq2 _ rs1 rs2 => groupFits rs1 2 && groupFits rs2 2
  | .veq3 _ rs1 rs2 => groupFits rs1 3 && groupFits rs2 3
  | .vlensq2 _ rs1 => groupFits rs1 2
  | .vlensq3 _ rs1 => groupFits rs1 3
  | .vlen2 _ rs1 => groupFits rs1 2
  | .vlen3 _ rs1 => groupFits rs1 3
  | .vnorm2 rd rs1 => groupFits rd 2 && groupFits rs1 2
  | .vnorm3 rd rs1 => groupFits rd 3 && groupFits rs1 3
  | .vdist2 _ rs1 rs2 => groupFits rs1 2 && groupFits rs2 2
  | .vdist3 _ rs1 rs2 => groupFits rs1 3 && groupFits rs2 3
  | .proj rd rs1 => groupFits rd 4 && groupFits rs1 3
  | .projs rd rs1 _ => groupFits rd 4 && groupFits rs1 3
  | .sprscale _ _ _ _ => true
  | .cmpdepth _ rs1 rs2 => groupFits rs1 3 && groupFits rs2 3

end Sys2Proof
end

