-- ==== Sys2Proof/Decode.lean ====
section
/-! DEFINITION. Decoding and encoding a command word (30_encoding.md R48 to R53). The decoder is total:
every word is a command or is rejected with the one cause its first failing check names. The encoder
stands after it. -/

namespace Sys2Proof

/-- Why a command word is illegal (60_exceptions.md R139; 30_encoding.md R50). -/
inductive Cause where
  /-- UNDEF_OP: the opcode is unassigned. -/
  | undefOp
  /-- RSV_BITS: bits [9:0] are not 0. -/
  | rsvBits
  /-- UNUSED_FIELD: a register field the opcode does not use is not 0. -/
  | unusedField
  /-- GROUP_RANGE: a register group would extend past R15. -/
  | groupRange
  deriving DecidableEq, Repr

/-- The four register fields of a command word (30_encoding.md R48). -/
structure Fields where
  rd : Reg
  rs1 : Reg
  rs2 : Reg
  rs3 : Reg
  deriving DecidableEq, Repr

/-- The operand classes of 30_encoding.md R49. -/
inductive FieldClass where
  | unused | s | v2 | v3 | d1 | d2 | d3 | d4
  deriving DecidableEq, Repr

/-- The operand classes of the four register fields (30_encoding.md R52). -/
structure Classes where
  rd : FieldClass
  rs1 : FieldClass
  rs2 : FieldClass
  rs3 : FieldClass
  deriving DecidableEq, Repr

/-- How many registers an operand of the class names, from its field on (30_encoding.md R49). -/
def FieldClass.span : FieldClass → Nat
  | .unused => 0
  | .s => 1
  | .d1 => 1
  | .v2 => 2
  | .d2 => 2
  | .v3 => 3
  | .d3 => 3
  | .d4 => 4

/-- `word[31:26]` (30_encoding.md R48). -/
def opField (w : Word) : BitVec 6 := w.extractLsb' 26 6

/-- The four register fields `word[25:22]`, `[21:18]`, `[17:14]`, `[13:10]` (30_encoding.md R48). -/
def fieldsOf (w : Word) : Fields where
  rd := (w.extractLsb' 22 4).toFin
  rs1 := (w.extractLsb' 18 4).toFin
  rs2 := (w.extractLsb' 14 4).toFin
  rs3 := (w.extractLsb' 10 4).toFin

/-- `word[9:0]`, the reserved field (30_encoding.md R48). -/
def zeroField (w : Word) : BitVec 10 := w.extractLsb' 0 10

/-- A field of an unused class must be 0 (30_encoding.md R50 check 3). -/
def FieldClass.unusedOk (c : FieldClass) (r : Reg) : Bool :=
  match c with
  | .unused => decide (r.val = 0)
  | _ => true

/-- A field's group ends at R15 or below (30_encoding.md R50 check 4). -/
def FieldClass.rangeOk (c : FieldClass) (r : Reg) : Bool := decide (r.val + c.span ≤ 16)

/-- 30_encoding.md R50 check 3 over all four fields. -/
def Classes.unusedOk (c : Classes) (f : Fields) : Bool :=
  c.rd.unusedOk f.rd && c.rs1.unusedOk f.rs1 && c.rs2.unusedOk f.rs2 && c.rs3.unusedOk f.rs3

/-- 30_encoding.md R50 check 4 over all four fields. -/
def Classes.rangeOk (c : Classes) (f : Fields) : Bool :=
  c.rd.rangeOk f.rd && c.rs1.rangeOk f.rs1 && c.rs2.rangeOk f.rs2 && c.rs3.rangeOk f.rs3

/-- The operand classes of each assigned opcode, none for an unassigned one (30_encoding.md R52, R53). -/
def opcodeClasses (op : BitVec 6) : Option Classes :=
  match op.toNat with
  | 0x01 => some ⟨.d1, .s, .unused, .unused⟩
  | 0x02 => some ⟨.d1, .s, .s, .unused⟩
  | 0x03 => some ⟨.d1, .s, .s, .unused⟩
  | 0x04 => some ⟨.d1, .s, .s, .unused⟩
  | 0x05 => some ⟨.d1, .s, .s, .unused⟩
  | 0x06 => some ⟨.d1, .s, .unused, .unused⟩
  | 0x07 => some ⟨.d1, .s, .unused, .unused⟩
  | 0x08 => some ⟨.d1, .s, .unused, .unused⟩
  | 0x09 => some ⟨.d1, .s, .unused, .unused⟩
  | 0x0A => some ⟨.d1, .s, .s, .s⟩
  | 0x0B => some ⟨.d1, .s, .s, .s⟩
  | 0x0C => some ⟨.d1, .s, .s, .unused⟩
  | 0x0D => some ⟨.d1, .s, .unused, .unused⟩
  | 0x0E => some ⟨.d1, .s, .unused, .unused⟩
  | 0x10 => some ⟨.d1, .s, .unused, .unused⟩
  | 0x11 => some ⟨.d1, .s, .unused, .unused⟩
  | 0x12 => some ⟨.d1, .s, .unused, .unused⟩
  | 0x13 => some ⟨.d1, .s, .s, .unused⟩
  | 0x14 => some ⟨.d1, .s, .unused, .unused⟩
  | 0x15 => some ⟨.d1, .s, .unused, .unused⟩
  | 0x16 => some ⟨.d1, .s, .unused, .unused⟩
  | 0x17 => some ⟨.d1, .s, .unused, .unused⟩
  | 0x18 => some ⟨.d1, .s, .unused, .unused⟩
  | 0x19 => some ⟨.d1, .s, .s, .unused⟩
  | 0x1A => some ⟨.d1, .unused, .unused, .unused⟩
  | 0x1B => some ⟨.d1, .unused, .unused, .unused⟩
  | 0x20 => some ⟨.d2, .v2, .v2, .unused⟩
  | 0x21 => some ⟨.d3, .v3, .v3, .unused⟩
  | 0x22 => some ⟨.d2, .v2, .v2, .unused⟩
  | 0x23 => some ⟨.d3, .v3, .v3, .unused⟩
  | 0x24 => some ⟨.d2, .v2, .s, .unused⟩
  | 0x25 => some ⟨.d3, .v3, .s, .unused⟩
  | 0x26 => some ⟨.d2, .v2, .s, .unused⟩
  | 0x27 => some ⟨.d3, .v3, .s, .unused⟩
  | 0x28 => some ⟨.d2, .v2, .unused, .unused⟩
  | 0x29 => some ⟨.d3, .v3, .unused, .unused⟩
  | 0x2A => some ⟨.d1, .v2, .v2, .unused⟩
  | 0x2B => some ⟨.d1, .v3, .v3, .unused⟩
  | 0x2C => some ⟨.d3, .v3, .v3, .unused⟩
  | 0x2D => some ⟨.d1, .v2, .v2, .unused⟩
  | 0x2E => some ⟨.d1, .v3, .v3, .unused⟩
  | 0x30 => some ⟨.d1, .v2, .unused, .unused⟩
  | 0x31 => some ⟨.d1, .v3, .unused, .unused⟩
  | 0x32 => some ⟨.d1, .v2, .unused, .unused⟩
  | 0x33 => some ⟨.d1, .v3, .unused, .unused⟩
  | 0x34 => some ⟨.d2, .v2, .unused, .unused⟩
  | 0x35 => some ⟨.d3, .v3, .unused, .unused⟩
  | 0x36 => some ⟨.d1, .v2, .v2, .unused⟩
  | 0x37 => some ⟨.d1, .v3, .v3, .unused⟩
  | 0x38 => some ⟨.d4, .v3, .unused, .unused⟩
  | 0x39 => some ⟨.d4, .v3, .s, .unused⟩
  | 0x3A => some ⟨.d1, .s, .s, .s⟩
  | 0x3B => some ⟨.d1, .v3, .v3, .unused⟩
  | _ => none

/-- The command each assigned opcode names, built from its register fields (30_encoding.md R52). -/
def buildInstr (op : BitVec 6) (f : Fields) : Option Instr :=
  match op.toNat with
  | 0x01 => some (.fromint f.rd f.rs1)
  | 0x02 => some (.fadd f.rd f.rs1 f.rs2)
  | 0x03 => some (.fsub f.rd f.rs1 f.rs2)
  | 0x04 => some (.fmul f.rd f.rs1 f.rs2)
  | 0x05 => some (.fdiv f.rd f.rs1 f.rs2)
  | 0x06 => some (.fround f.rd f.rs1)
  | 0x07 => some (.ffloor f.rd f.rs1)
  | 0x08 => some (.fceil f.rd f.rs1)
  | 0x09 => some (.ffrac f.rd f.rs1)
  | 0x0A => some (.fclamp f.rd f.rs1 f.rs2 f.rs3)
  | 0x0B => some (.flerp f.rd f.rs1 f.rs2 f.rs3)
  | 0x0C => some (.fcmp f.rd f.rs1 f.rs2)
  | 0x0D => some (.fsqrt f.rd f.rs1)
  | 0x0E => some (.isqrt f.rd f.rs1)
  | 0x10 => some (.sin f.rd f.rs1)
  | 0x11 => some (.cos f.rd f.rs1)
  | 0x12 => some (.tan f.rd f.rs1)
  | 0x13 => some (.atan2 f.rd f.rs1 f.rs2)
  | 0x14 => some (.deg2ang f.rd f.rs1)
  | 0x15 => some (.ang2deg f.rd f.rs1)
  | 0x16 => some (.rad2ang f.rd f.rs1)
  | 0x17 => some (.ang2rad f.rd f.rs1)
  | 0x18 => some (.rint f.rd f.rs1)
  | 0x19 => some (.rrange f.rd f.rs1 f.rs2)
  | 0x1A => some (.rbool f.rd)
  | 0x1B => some (.rfix f.rd)
  | 0x20 => some (.vadd2 f.rd f.rs1 f.rs2)
  | 0x21 => some (.vadd3 f.rd f.rs1 f.rs2)
  | 0x22 => some (.vsub2 f.rd f.rs1 f.rs2)
  | 0x23 => some (.vsub3 f.rd f.rs1 f.rs2)
  | 0x24 => some (.vscale2 f.rd f.rs1 f.rs2)
  | 0x25 => some (.vscale3 f.rd f.rs1 f.rs2)
  | 0x26 => some (.vdivs2 f.rd f.rs1 f.rs2)
  | 0x27 => some (.vdivs3 f.rd f.rs1 f.rs2)
  | 0x28 => some (.vneg2 f.rd f.rs1)
  | 0x29 => some (.vneg3 f.rd f.rs1)
  | 0x2A => some (.vdot2 f.rd f.rs1 f.rs2)
  | 0x2B => some (.vdot3 f.rd f.rs1 f.rs2)
  | 0x2C => some (.vcross3 f.rd f.rs1 f.rs2)
  | 0x2D => some (.veq2 f.rd f.rs1 f.rs2)
  | 0x2E => some (.veq3 f.rd f.rs1 f.rs2)
  | 0x30 => some (.vlensq2 f.rd f.rs1)
  | 0x31 => some (.vlensq3 f.rd f.rs1)
  | 0x32 => some (.vlen2 f.rd f.rs1)
  | 0x33 => some (.vlen3 f.rd f.rs1)
  | 0x34 => some (.vnorm2 f.rd f.rs1)
  | 0x35 => some (.vnorm3 f.rd f.rs1)
  | 0x36 => some (.vdist2 f.rd f.rs1 f.rs2)
  | 0x37 => some (.vdist3 f.rd f.rs1 f.rs2)
  | 0x38 => some (.proj f.rd f.rs1)
  | 0x39 => some (.projs f.rd f.rs1 f.rs2)
  | 0x3A => some (.sprscale f.rd f.rs1 f.rs2 f.rs3)
  | 0x3B => some (.cmpdepth f.rd f.rs1 f.rs2)
  | _ => none

/-- Decoding (30_encoding.md R50): the four checks in their order, the first failing one naming the
cause. -/
def decode (w : Word) : Except Cause Instr :=
  match opcodeClasses (opField w), buildInstr (opField w) (fieldsOf w) with
  | some c, some i =>
    if zeroField w ≠ 0#10 then .error .rsvBits
    else if c.unusedOk (fieldsOf w) = false then .error .unusedField
    else if c.rangeOk (fieldsOf w) = false then .error .groupRange
    else .ok i
  | _, _ => .error .undefOp

/-- The opcode of a command (30_encoding.md R52). -/
def Instr.opcode : Instr → BitVec 6
  | .fromint _ _ => 0x01#6
  | .fadd _ _ _ => 0x02#6
  | .fsub _ _ _ => 0x03#6
  | .fmul _ _ _ => 0x04#6
  | .fdiv _ _ _ => 0x05#6
  | .fround _ _ => 0x06#6
  | .ffloor _ _ => 0x07#6
  | .fceil _ _ => 0x08#6
  | .ffrac _ _ => 0x09#6
  | .fclamp _ _ _ _ => 0x0A#6
  | .flerp _ _ _ _ => 0x0B#6
  | .fcmp _ _ _ => 0x0C#6
  | .fsqrt _ _ => 0x0D#6
  | .isqrt _ _ => 0x0E#6
  | .sin _ _ => 0x10#6
  | .cos _ _ => 0x11#6
  | .tan _ _ => 0x12#6
  | .atan2 _ _ _ => 0x13#6
  | .deg2ang _ _ => 0x14#6
  | .ang2deg _ _ => 0x15#6
  | .rad2ang _ _ => 0x16#6
  | .ang2rad _ _ => 0x17#6
  | .rint _ _ => 0x18#6
  | .rrange _ _ _ => 0x19#6
  | .rbool _ => 0x1A#6
  | .rfix _ => 0x1B#6
  | .vadd2 _ _ _ => 0x20#6
  | .vadd3 _ _ _ => 0x21#6
  | .vsub2 _ _ _ => 0x22#6
  | .vsub3 _ _ _ => 0x23#6
  | .vscale2 _ _ _ => 0x24#6
  | .vscale3 _ _ _ => 0x25#6
  | .vdivs2 _ _ _ => 0x26#6
  | .vdivs3 _ _ _ => 0x27#6
  | .vneg2 _ _ => 0x28#6
  | .vneg3 _ _ => 0x29#6
  | .vdot2 _ _ _ => 0x2A#6
  | .vdot3 _ _ _ => 0x2B#6
  | .vcross3 _ _ _ => 0x2C#6
  | .veq2 _ _ _ => 0x2D#6
  | .veq3 _ _ _ => 0x2E#6
  | .vlensq2 _ _ => 0x30#6
  | .vlensq3 _ _ => 0x31#6
  | .vlen2 _ _ => 0x32#6
  | .vlen3 _ _ => 0x33#6
  | .vnorm2 _ _ => 0x34#6
  | .vnorm3 _ _ => 0x35#6
  | .vdist2 _ _ _ => 0x36#6
  | .vdist3 _ _ _ => 0x37#6
  | .proj _ _ => 0x38#6
  | .projs _ _ _ => 0x39#6
  | .sprscale _ _ _ _ => 0x3A#6
  | .cmpdepth _ _ _ => 0x3B#6

/-- The register fields of a command, 0 where its class is unused (30_encoding.md R49, R50). -/
def Instr.fields : Instr → Fields
  | .fromint rd rs1 => ⟨rd, rs1, 0, 0⟩
  | .fadd rd rs1 rs2 => ⟨rd, rs1, rs2, 0⟩
  | .fsub rd rs1 rs2 => ⟨rd, rs1, rs2, 0⟩
  | .fmul rd rs1 rs2 => ⟨rd, rs1, rs2, 0⟩
  | .fdiv rd rs1 rs2 => ⟨rd, rs1, rs2, 0⟩
  | .fround rd rs1 => ⟨rd, rs1, 0, 0⟩
  | .ffloor rd rs1 => ⟨rd, rs1, 0, 0⟩
  | .fceil rd rs1 => ⟨rd, rs1, 0, 0⟩
  | .ffrac rd rs1 => ⟨rd, rs1, 0, 0⟩
  | .fclamp rd rs1 rs2 rs3 => ⟨rd, rs1, rs2, rs3⟩
  | .flerp rd rs1 rs2 rs3 => ⟨rd, rs1, rs2, rs3⟩
  | .fcmp rd rs1 rs2 => ⟨rd, rs1, rs2, 0⟩
  | .fsqrt rd rs1 => ⟨rd, rs1, 0, 0⟩
  | .isqrt rd rs1 => ⟨rd, rs1, 0, 0⟩
  | .sin rd rs1 => ⟨rd, rs1, 0, 0⟩
  | .cos rd rs1 => ⟨rd, rs1, 0, 0⟩
  | .tan rd rs1 => ⟨rd, rs1, 0, 0⟩
  | .atan2 rd rs1 rs2 => ⟨rd, rs1, rs2, 0⟩
  | .deg2ang rd rs1 => ⟨rd, rs1, 0, 0⟩
  | .ang2deg rd rs1 => ⟨rd, rs1, 0, 0⟩
  | .rad2ang rd rs1 => ⟨rd, rs1, 0, 0⟩
  | .ang2rad rd rs1 => ⟨rd, rs1, 0, 0⟩
  | .rint rd rs1 => ⟨rd, rs1, 0, 0⟩
  | .rrange rd rs1 rs2 => ⟨rd, rs1, rs2, 0⟩
  | .rbool rd => ⟨rd, 0, 0, 0⟩
  | .rfix rd => ⟨rd, 0, 0, 0⟩
  | .vadd2 rd rs1 rs2 => ⟨rd, rs1, rs2, 0⟩
  | .vadd3 rd rs1 rs2 => ⟨rd, rs1, rs2, 0⟩
  | .vsub2 rd rs1 rs2 => ⟨rd, rs1, rs2, 0⟩
  | .vsub3 rd rs1 rs2 => ⟨rd, rs1, rs2, 0⟩
  | .vscale2 rd rs1 rs2 => ⟨rd, rs1, rs2, 0⟩
  | .vscale3 rd rs1 rs2 => ⟨rd, rs1, rs2, 0⟩
  | .vdivs2 rd rs1 rs2 => ⟨rd, rs1, rs2, 0⟩
  | .vdivs3 rd rs1 rs2 => ⟨rd, rs1, rs2, 0⟩
  | .vneg2 rd rs1 => ⟨rd, rs1, 0, 0⟩
  | .vneg3 rd rs1 => ⟨rd, rs1, 0, 0⟩
  | .vdot2 rd rs1 rs2 => ⟨rd, rs1, rs2, 0⟩
  | .vdot3 rd rs1 rs2 => ⟨rd, rs1, rs2, 0⟩
  | .vcross3 rd rs1 rs2 => ⟨rd, rs1, rs2, 0⟩
  | .veq2 rd rs1 rs2 => ⟨rd, rs1, rs2, 0⟩
  | .veq3 rd rs1 rs2 => ⟨rd, rs1, rs2, 0⟩
  | .vlensq2 rd rs1 => ⟨rd, rs1, 0, 0⟩
  | .vlensq3 rd rs1 => ⟨rd, rs1, 0, 0⟩
  | .vlen2 rd rs1 => ⟨rd, rs1, 0, 0⟩
  | .vlen3 rd rs1 => ⟨rd, rs1, 0, 0⟩
  | .vnorm2 rd rs1 => ⟨rd, rs1, 0, 0⟩
  | .vnorm3 rd rs1 => ⟨rd, rs1, 0, 0⟩
  | .vdist2 rd rs1 rs2 => ⟨rd, rs1, rs2, 0⟩
  | .vdist3 rd rs1 rs2 => ⟨rd, rs1, rs2, 0⟩
  | .proj rd rs1 => ⟨rd, rs1, 0, 0⟩
  | .projs rd rs1 rs2 => ⟨rd, rs1, rs2, 0⟩
  | .sprscale rd rs1 rs2 rs3 => ⟨rd, rs1, rs2, rs3⟩
  | .cmpdepth rd rs1 rs2 => ⟨rd, rs1, rs2, 0⟩

/-- `{op, rd, rs1, rs2, rs3, 0b0000000000}` (30_encoding.md R48). -/
def packWord (op : BitVec 6) (f : Fields) : Word :=
  op ++ BitVec.ofFin (w := 4) f.rd ++ BitVec.ofFin (w := 4) f.rs1 ++ BitVec.ofFin (w := 4) f.rs2
    ++ BitVec.ofFin (w := 4) f.rs3 ++ 0#10

/-- The command word of a command (30_encoding.md R48, R52). -/
def encode (i : Instr) : Word := packWord i.opcode i.fields

/-- The command's register groups fit, by the operand classes of its opcode: the check the decoder
makes, asked of a command (30_encoding.md R50 check 4). -/
def Instr.groupsFit (i : Instr) : Bool :=
  match opcodeClasses i.opcode with
  | some c => c.rangeOk i.fields
  | none => false

/-- The command the decoder reads from the low `nbits` bits of `w`, every bit above them 0. A command
is one 32-bit word (30_encoding.md R48) that the host moves whole on `wdata` (20_memory.md R35), so no
byte order enters. -/
def decodeTableWord (nbits w : Nat) : Option Instr :=
  match decode (BitVec.ofNat 32 (w % 2 ^ nbits)) with
  | .ok i => some i
  | .error _ => none

end Sys2Proof
end

