-- ==== Sys2Proof/Machine/State.lean ====
section
/-! DEFINITION. The state of FXCORE (10_state.md R31), its value after reset
(70_reset_and_hazards.md R153), and the reasons a step could stop. -/

namespace Sys2Proof.Machine

/-- One access of the host to the register window, whole and atomic (10_state.md R18, 20_memory.md R38).
`off` is the word offset on the `addr` port (10_state.md R17). -/
inductive Access where
  | read (off : Offset)
  | write (off : Offset) (wdata : Word)
  deriving DecidableEq, Repr

/-- What reaches FXCORE from outside, one after another (10_state.md R16, R17). -/
inductive Event where
  /-- An access, acknowledged when it has completed (10_state.md R17). -/
  | access (a : Access)
  /-- A reset, and the access it catches in progress if there is one: that access is abandoned
  (70_reset_and_hazards.md R152). -/
  | rst (inProgress : Option Access)
  deriving DecidableEq, Repr

/-- What the outputs `ack` and `rdata` show of the last step (10_state.md R17). -/
inductive Response where
  /-- No access was acknowledged. -/
  | idle
  /-- A write was acknowledged. -/
  | written
  /-- A read was acknowledged, with `rdata` on the port. -/
  | data (rdata : Word)
  deriving DecidableEq, Repr

/-- The machine. The first group of fields is the architectural state, complete by 10_state.md R31. The
last three are the model's own (log 1, 4, 5). -/
structure State where
  /-- R0 to R15 (10_state.md R19). -/
  regs : Vector Word 16
  /-- STATUS.ERR (10_state.md R25). -/
  err : Bool
  /-- STATUS.OVR (10_state.md R25). -/
  ovr : Bool
  /-- STATUS.CAUSE (10_state.md R25). -/
  cause : BitVec 4
  /-- ERRCMD (10_state.md R26). -/
  errcmd : Word
  /-- RNG_SEED (10_state.md R27). -/
  rngSeed : Word
  /-- CAM_PX (10_state.md R23). -/
  camPX : Word
  /-- CAM_PY (10_state.md R23). -/
  camPY : Word
  /-- CAM_PZ (10_state.md R23). -/
  camPZ : Word
  /-- CAM_TX (10_state.md R23). -/
  camTX : Word
  /-- CAM_TY (10_state.md R23). -/
  camTY : Word
  /-- CAM_TZ (10_state.md R23). -/
  camTZ : Word
  /-- CAM_FOV, read by no command (10_state.md R28). -/
  camFov : Word
  /-- CAM_NEAR (10_state.md R23). -/
  camNear : Word
  /-- CAM_FAR (10_state.md R23). -/
  camFar : Word
  /-- SCREEN_W (10_state.md R29). -/
  screenW : Half
  /-- SCREEN_H (10_state.md R29). -/
  screenH : Half
  /-- The parameters of 00_scope.md R9, written by no step (log 1). -/
  cfg : Config
  /-- The events still to come, the next one first (log 4). -/
  host : List Event
  /-- What the outputs show of the last step (log 5). -/
  resp : Response
  deriving DecidableEq, Repr

/-- Nothing stops FXCORE: no legal command stops (60_exceptions.md R138), an illegal one is recorded in
STATUS and completes (R139), and an access to any offset completes (20_memory.md R40). So there is no
fault. -/
inductive Fault where
  deriving DecidableEq, Repr

/-- The refusals. -/
inductive Refusal where
  /-- Raised only by an arm of exec whose command has no meaning yet, which no arm is. Safe: the machine
  stops where the hardware goes on. -/
  | notModelled (mnemonic : String)
  deriving DecidableEq, Repr

/-- Every piece of architectural state at its reset value, under the parameters `c`
(70_reset_and_hazards.md R153), with no event waiting and nothing acknowledged. -/
def State.resetWith (c : Config) : State where
  regs := Vector.replicate 16 0#32
  err := false
  ovr := false
  cause := 0#4
  errcmd := 0#32
  rngSeed := c.resetSeed
  camPX := 0#32
  camPY := 0#32
  camPZ := 0#32
  camTX := 0#32
  camTY := 0#32
  camTZ := 0#32
  camFov := 0#32
  camNear := 0#32
  camFar := 0#32
  screenW := screenWReset
  screenH := screenHReset
  cfg := c
  host := []
  resp := .idle

/-- The machine right after reset, with the parameters at the defaults 00_scope.md R9 states
(70_reset_and_hazards.md R153; log 1, 7). -/
def State.reset : State := State.resetWith defaultConfig

end Sys2Proof.Machine
end

