-- ==== Sys2Proof/Machine/Flags.lean ====
section
/-! DEFINITION. FXCORE has no condition codes (10_state.md R22). Its only status bits are those of
STATUS (R25), and its booleans and orderings are register values; their computations are here. -/

namespace Sys2Proof.Machine

/-- A Bool result as a word, 1 or 0 (00_scope.md R11). -/
def boolWord (b : Bool) : Word := if b then 1#32 else 0#32

/-- The three-valued ordering of FCMP: -1, 0 or 1 (40_fixed_point.md R69). -/
def orderWord (a b : Int) : Word :=
  if a < b then 0xFFFFFFFF#32 else if a = b then 0#32 else 1#32

/-- The back-to-front ordering of CMPDEPTH: -1 where `za` is farther, that is larger
(44_projection.md R125). -/
def depthWord (za zb : Int) : Word :=
  if za > zb then 0xFFFFFFFF#32 else if za < zb then 1#32 else 0#32

/-- The cause code of an illegal command (60_exceptions.md R139). -/
def causeCode (c : Cause) : BitVec 4 :=
  match c with
  | .undefOp => 1#4
  | .rsvBits => 2#4
  | .unusedField => 3#4
  | .groupRange => 4#4

/-- STATUS as the host reads it: ERR in bit 0, OVR in bit 1, CAUSE in bits [7:4], every other bit 0
(10_state.md R25). -/
def State.statusWord (s : State) : Word :=
  0#24 ++ s.cause ++ 0#2 ++ BitVec.ofBool s.ovr ++ BitVec.ofBool s.err

end Sys2Proof.Machine
end

