-- ==== Sys2Proof/Machine/Ops.lean ====
section
/-! DEFINITION. The named operations over the registers: reading and writing a general register or a
group of them, the illegal-command event and the clear that answers it. -/

namespace Sys2Proof.Machine

/-- `x[r]`, a general register (00_scope.md R12, 10_state.md R19). -/
def State.reg (s : State) (r : Reg) : Word := s.regs[r.val]

/-- `x[r] <- w` (00_scope.md R12). -/
def State.setReg (s : State) (r : Reg) (w : Word) : State :=
  { s with regs := s.regs.set r.val w r.isLt }

/-- Register `j` of the group based at `r` (10_state.md R20). A group that reaches past R15 is stopped by
`guarded` before any meaning reads or writes it, so the number never wraps where it is used. -/
def groupReg (r : Reg) (j : Nat) : Reg := Fin.ofNat 16 (r.val + j)

/-- The illegal-command event `raise IllegalCommand(cause)` for the command word `w`: the first one since the
last clear sets ERR and records its cause and its word; a later one sets OVR and keeps both. Nothing else
changes, and no handler is entered: it is not a trap (60_exceptions.md R139, R142). -/
def takeIllegal (c : Cause) (w : Word) (s : State) : State :=
  if s.err then { s with ovr := true }
  else { s with err := true, cause := causeCode c, errcmd := w }

/-- The host's answer to an illegal command, a STATUS write of 1 to bit 0: ERR, OVR, CAUSE and ERRCMD
become 0 in one step (10_state.md R25, 60_exceptions.md R143). -/
def clearStatus (s : State) : State :=
  { s with err := false, ovr := false, cause := 0#4, errcmd := 0#32 }

/-- The outcome of the command `i` whose effect is the state `t`: `t` where its register groups fit, and the
illegal-command event GROUP_RANGE for its word where one would reach past R15 (10_state.md R20,
30_encoding.md R50 check 4). The decoder has already turned such words away; the guard gives the spec's
effect to every term of Instr (log 10). -/
def guarded (i : Instr) (s t : State) : Host.Outcome State Fault Refusal :=
  .next (if i.groupsFit then t else takeIllegal .groupRange (encode i) s)

end Sys2Proof.Machine
end

