-- ==== Sys2Proof/Machine/Operands.lean ====
section
/-! DEFINITION. The operand forms of 30_encoding.md R49: scalars, Vector2 and Vector3 groups, and the
result groups of 2, 3 and 4 registers (10_state.md R20). -/

namespace Sys2Proof.Machine

/-- A Vector2 value, its components as words (00_scope.md R13, 42_vector.md R87). -/
structure V2 where
  x : Word
  y : Word
  deriving DecidableEq, Repr

/-- A Vector3 value, its components as words (00_scope.md R13, 42_vector.md R87). -/
structure V3 where
  x : Word
  y : Word
  z : Word
  deriving DecidableEq, Repr

/-- A ProjectionResult (00_scope.md R15, 44_projection.md R120). -/
structure ProjectionResult where
  screenX : Int
  screenY : Int
  scale : Int
  visible : Bool
  deriving DecidableEq, Repr

/-- `s(x[r])`, a scalar operand read as a signed value (00_scope.md R11, R12). -/
def State.sreg (s : State) (r : Reg) : Int := sv (s.reg r)

/-- `V2(r)`: R`r`, R`r+1` (00_scope.md R13). -/
def State.v2 (s : State) (r : Reg) : V2 := ⟨s.reg r, s.reg (groupReg r 1)⟩

/-- `V3(r)`: R`r`, R`r+1`, R`r+2` (00_scope.md R13). -/
def State.v3 (s : State) (r : Reg) : V3 := ⟨s.reg r, s.reg (groupReg r 1), s.reg (groupReg r 2)⟩

/-- Write a result group of 2. The value is computed before, from the old registers (30_encoding.md
R51). -/
def State.setV2 (s : State) (d : Reg) (v : V2) : State :=
  (s.setReg d v.x).setReg (groupReg d 1) v.y

/-- Write a result group of 3 (30_encoding.md R51). -/
def State.setV3 (s : State) (d : Reg) (v : V3) : State :=
  ((s.setReg d v.x).setReg (groupReg d 1) v.y).setReg (groupReg d 2) v.z

/-- Write a ProjectionResult as the four words screenX, screenY, scale, visible (44_projection.md
R120). -/
def State.setProjection (s : State) (d : Reg) (p : ProjectionResult) : State :=
  (((s.setReg d (wrap32 p.screenX)).setReg (groupReg d 1) (wrap32 p.screenY)).setReg
    (groupReg d 2) (wrap32 p.scale)).setReg (groupReg d 3) (boolWord p.visible)

end Sys2Proof.Machine
end

