-- ==== Sys2Proof/Machine/Angle.lean ====
section
/-! DEFINITION. The angle family: the quarter-wave sine table, the arctangent approximation and the four
conversions (41_angle.md R73 to R86). -/

namespace Sys2Proof.Machine

/-- The canonical angle `angle & 255` (41_angle.md R73). -/
def canonicalAngle (angle : Int) : Nat := (angle % 256).toNat

/-- SIN_TABLE[i]. Every index the rules use is in 0..64 (41_angle.md R75). -/
def sinEntry (c : Config) (i : Nat) : Word := c.sinTable.getD i 0#32

/-- SIN_f, the quarter-wave reconstruction (41_angle.md R75, 90_conflicts.md C1). The negation is modulo
2^32, which an entry of at most 65536 never needs (log 3). -/
def sinF (c : Config) (angle : Int) : Word :=
  let a := canonicalAngle angle
  if a < 64 then sinEntry c a
  else if a < 128 then sinEntry c (128 - a)
  else if a < 192 then wrap32 (-sv (sinEntry c (a - 128)))
  else wrap32 (-sv (sinEntry c (256 - a)))

/-- COS_f, the sine a quarter turn on (41_angle.md R77). -/
def cosF (c : Config) (angle : Int) : Word := sinF c (sv (wrap32 (angle + 64)))

/-- The tangent: TAN_SAT where the cosine is 0, else the quotient (41_angle.md R78). -/
def tanF (c : Config) (angle : Int) : Word :=
  if sv (cosF c angle) = 0 then c.tanSat
  else divF (sv (sinF c angle)) (sv (cosF c angle))

/-- The octant angle of ATAN2_REF, 0..32 and rounded, from the smaller and the larger magnitude
under the curvature constant `k`, ATAN_K (41_angle.md R80). -/
def octantAngle (k mn mx : Int) : Int :=
  let r := shl mn 16 / mx
  let o := 32 * r + sar (k * r * (65536 - r)) 32
  sar (o + 32768) 16

/-- ATAN2_REF with the curvature constant `k`, ATAN_K (41_angle.md R80). -/
def atan2Ref (k y x : Int) : Int :=
  if x = 0 ∧ y = 0 then 0
  else
    let ax : Int := x.natAbs
    let ay : Int := y.natAbs
    let a := octantAngle k (min ax ay) (max ax ay)
    let t := if ax ≥ ay then a else 64 - a
    let t := if x < 0 then 128 - t else t
    if y < 0 then (256 - t) % 256 else t

/-- ATAN2_FN on two operand words (41_angle.md R79, R80). The result of ATAN2_REF is narrowed modulo 2^32, which
only an ATAN_K that makes it leave [0, 256) could show (log 2). -/
def atan2F (c : Config) (y x : Word) : Word :=
  match c.atan2 with
  | .ref => wrap32 (atan2Ref c.atanK (sv y) (sv x))
  | .other n => (Config.atan2Other n y x).setWidth 32

/-- SIN (41_angle.md R76). -/
def execSin (rd rs1 : Reg) (s : State) : Host.Outcome State Fault Refusal :=
  .next (s.setReg rd (sinF s.cfg (s.sreg rs1)))

/-- COS (41_angle.md R77). -/
def execCos (rd rs1 : Reg) (s : State) : Host.Outcome State Fault Refusal :=
  .next (s.setReg rd (cosF s.cfg (s.sreg rs1)))

/-- TAN (41_angle.md R78). -/
def execTan (rd rs1 : Reg) (s : State) : Host.Outcome State Fault Refusal :=
  .next (s.setReg rd (tanF s.cfg (s.sreg rs1)))

/-- ATAN2 of y in rs1 and x in rs2 (41_angle.md R79). -/
def execAtan2 (rd rs1 rs2 : Reg) (s : State) : Host.Outcome State Fault Refusal :=
  .next (s.setReg rd (atan2F s.cfg (s.reg rs1) (s.reg rs2)))

/-- DEG2ANG, not reduced modulo 256 (41_angle.md R81). -/
def execDeg2ang (rd rs1 : Reg) (s : State) : Host.Outcome State Fault Refusal :=
  .next (s.setReg rd (wrap32 (floorF (sv (mulF (s.sreg rs1) (sv s.cfg.kD2A))))))

/-- ANG2DEG (41_angle.md R82). -/
def execAng2deg (rd rs1 : Reg) (s : State) : Host.Outcome State Fault Refusal :=
  .next (s.setReg rd (divF (sv (fromIntF (s.sreg rs1))) (sv s.cfg.kD2A)))

/-- RAD2ANG, not reduced modulo 256 (41_angle.md R83). -/
def execRad2ang (rd rs1 : Reg) (s : State) : Host.Outcome State Fault Refusal :=
  .next (s.setReg rd (wrap32 (floorF (sv (divF (s.sreg rs1) (sv s.cfg.kA2R))))))

/-- ANG2RAD (41_angle.md R84). -/
def execAng2rad (rd rs1 : Reg) (s : State) : Host.Outcome State Fault Refusal :=
  .next (s.setReg rd (mulF (sv (fromIntF (s.sreg rs1))) (sv s.cfg.kA2R)))

end Sys2Proof.Machine
end

