-- ==== Sys2Proof/Machine/FixedPoint.lean ====
section
/-! DEFINITION. The FixedPoint family (40_fixed_point.md R58 to R69). Every meaning answers a next state
that differs in its destination register alone: no flag and no status bit is written (R70, 10_state.md
R22). -/

namespace Sys2Proof.Machine

/-- FROMINT: the integer shifted left by 16, modulo 2^32 (40_fixed_point.md R58). -/
def execFromint (rd rs1 : Reg) (s : State) : Host.Outcome State Fault Refusal :=
  .next (s.setReg rd (fromIntF (s.sreg rs1)))

/-- FADD (40_fixed_point.md R59). -/
def execFadd (rd rs1 rs2 : Reg) (s : State) : Host.Outcome State Fault Refusal :=
  .next (s.setReg rd (addF (s.sreg rs1) (s.sreg rs2)))

/-- FSUB, `a - b` (40_fixed_point.md R60). -/
def execFsub (rd rs1 rs2 : Reg) (s : State) : Host.Outcome State Fault Refusal :=
  .next (s.setReg rd (subF (s.sreg rs1) (s.sreg rs2)))

/-- FMUL, with the 64-bit intermediate (40_fixed_point.md R61). -/
def execFmul (rd rs1 rs2 : Reg) (s : State) : Host.Outcome State Fault Refusal :=
  .next (s.setReg rd (mulF (s.sreg rs1) (s.sreg rs2)))

/-- FDIV; a zero divisor gives 0 and is no error (40_fixed_point.md R62). -/
def execFdiv (rd rs1 rs2 : Reg) (s : State) : Host.Outcome State Fault Refusal :=
  .next (s.setReg rd (divF (s.sreg rs1) (s.sreg rs2)))

/-- FROUND: half up, the addition in 64 bits, an Int (40_fixed_point.md R63). -/
def execFround (rd rs1 : Reg) (s : State) : Host.Outcome State Fault Refusal :=
  .next (s.setReg rd (wrap32 (sar (s.sreg rs1 + 0x8000) 16)))

/-- FFLOOR, an Int (40_fixed_point.md R64). -/
def execFfloor (rd rs1 : Reg) (s : State) : Host.Outcome State Fault Refusal :=
  .next (s.setReg rd (wrap32 (floorF (s.sreg rs1))))

/-- FCEIL: up only where a fraction bit is set, an Int (40_fixed_point.md R65). -/
def execFceil (rd rs1 : Reg) (s : State) : Host.Outcome State Fault Refusal :=
  .next (s.setReg rd
    (wrap32 (sar (s.sreg rs1) 16 + if (s.reg rs1).extractLsb' 0 16 ≠ 0#16 then 1 else 0)))

/-- FFRAC: the low 16 bits, measured from the floor (40_fixed_point.md R66). -/
def execFfrac (rd rs1 : Reg) (s : State) : Host.Outcome State Fault Refusal :=
  .next (s.setReg rd (((s.reg rs1).extractLsb' 0 16).setWidth 32))

/-- FCLAMP: below lo first, then above hi, signed (40_fixed_point.md R67). -/
def execFclamp (rd rs1 rs2 rs3 : Reg) (s : State) : Host.Outcome State Fault Refusal :=
  .next (s.setReg rd
    (if s.sreg rs1 < s.sreg rs2 then s.reg rs2
     else if s.sreg rs1 > s.sreg rs3 then s.reg rs3
     else s.reg rs1))

/-- FLERP: `a + (b - a) * t`, each operation narrowed in turn (40_fixed_point.md R68). -/
def execFlerp (rd rs1 rs2 rs3 : Reg) (s : State) : Host.Outcome State Fault Refusal :=
  .next (s.setReg rd
    (addF (s.sreg rs1) (sv (mulF (sv (subF (s.sreg rs2) (s.sreg rs1))) (s.sreg rs3)))))

/-- FCMP: -1, 0 or 1, by a signed comparison without subtraction (40_fixed_point.md R69). -/
def execFcmp (rd rs1 rs2 : Reg) (s : State) : Host.Outcome State Fault Refusal :=
  .next (s.setReg rd (orderWord (s.sreg rs1) (s.sreg rs2)))

end Sys2Proof.Machine
end

