-- ==== Sys2Proof/Machine/Sqrt.lean ====
section
/-! DEFINITION. The square root family: Newton's method with a fixed number of steps (43_sqrt.md R113 to
R119). -/

namespace Sys2Proof.Machine

/-- The Newton steps from the guess `g` with the quotient `quot g` of the operand by the guess: halve the
exact sum by an arithmetic shift, and stop early at a zero guess (43_sqrt.md R113, R114). -/
def newtonSteps (quot : Int → Int) : Nat → Int → Int
  | 0, g => g
  | n + 1, g => if g = 0 then g else newtonSteps quot n (sar (g + quot g) 1)

/-- FSQRT_f: 0 for a non-positive operand; the first guess is `x` below 1.0 and `x >> 1` from there on
(43_sqrt.md R114). -/
def fsqrtF (x : Int) : Word :=
  if x ≤ 0 then 0#32
  else wrap32 (newtonSteps (fun g => sv (divF x g)) sqrtIters (if x < 65536 then x else sar x 1))

/-- ISQRT_f, with the integer quotient and the threshold 1 (43_sqrt.md R116). -/
def isqrtF (n : Int) : Int :=
  if n ≤ 0 then 0
  else newtonSteps (fun g => tdiv n g) sqrtIters (if n < 1 then n else sar n 1)

/-- FSQRT (43_sqrt.md R115). -/
def execFsqrt (rd rs1 : Reg) (s : State) : Host.Outcome State Fault Refusal :=
  .next (s.setReg rd (fsqrtF (s.sreg rs1)))

/-- ISQRT (43_sqrt.md R116). -/
def execIsqrt (rd rs1 : Reg) (s : State) : Host.Outcome State Fault Refusal :=
  .next (s.setReg rd (wrap32 (isqrtF (s.sreg rs1))))

end Sys2Proof.Machine
end

