-- ==== Sys2Proof/Machine/Vector.lean ====
section
/-! DEFINITION. The vector family: componentwise algebra, dot and cross product, equality, length,
normalize and distance of Vector2 and Vector3 register groups (42_vector.md R87 to R112). -/

namespace Sys2Proof.Machine

/-- Componentwise sum (42_vector.md R89). -/
def add2 (a b : V2) : V2 := ⟨addF (sv a.x) (sv b.x), addF (sv a.y) (sv b.y)⟩

/-- Componentwise sum (42_vector.md R90). -/
def add3 (a b : V3) : V3 :=
  ⟨addF (sv a.x) (sv b.x), addF (sv a.y) (sv b.y), addF (sv a.z) (sv b.z)⟩

/-- Componentwise difference (42_vector.md R91). -/
def sub2 (a b : V2) : V2 := ⟨subF (sv a.x) (sv b.x), subF (sv a.y) (sv b.y)⟩

/-- Componentwise difference (42_vector.md R92). -/
def sub3 (a b : V3) : V3 :=
  ⟨subF (sv a.x) (sv b.x), subF (sv a.y) (sv b.y), subF (sv a.z) (sv b.z)⟩

/-- Product by a scalar (42_vector.md R93). -/
def scale2 (a : V2) (sc : Int) : V2 := ⟨mulF (sv a.x) sc, mulF (sv a.y) sc⟩

/-- Product by a scalar (42_vector.md R94). -/
def scale3 (a : V3) (sc : Int) : V3 := ⟨mulF (sv a.x) sc, mulF (sv a.y) sc, mulF (sv a.z) sc⟩

/-- Quotient by a scalar; the input unchanged for a zero scalar (42_vector.md R95). -/
def divs2 (a : V2) (sc : Int) : V2 :=
  if sc = 0 then a else ⟨divF (sv a.x) sc, divF (sv a.y) sc⟩

/-- Quotient by a scalar; the input unchanged for a zero scalar (42_vector.md R96). -/
def divs3 (a : V3) (sc : Int) : V3 :=
  if sc = 0 then a else ⟨divF (sv a.x) sc, divF (sv a.y) sc, divF (sv a.z) sc⟩

/-- Componentwise negation (42_vector.md R97). -/
def neg2 (a : V2) : V2 := ⟨subF 0 (sv a.x), subF 0 (sv a.y)⟩

/-- Componentwise negation (42_vector.md R98). -/
def neg3 (a : V3) : V3 := ⟨subF 0 (sv a.x), subF 0 (sv a.y), subF 0 (sv a.z)⟩

/-- DOT_f, k = 2: each product rounded before the wrapping sum (42_vector.md R87). -/
def dot2 (a b : V2) : Word := addF (sv (mulF (sv a.x) (sv b.x))) (sv (mulF (sv a.y) (sv b.y)))

/-- DOT_f, k = 3, summed in the order x, y, z (42_vector.md R87). -/
def dot3 (a b : V3) : Word :=
  addF (sv (addF (sv (mulF (sv a.x) (sv b.x))) (sv (mulF (sv a.y) (sv b.y)))))
    (sv (mulF (sv a.z) (sv b.z)))

/-- The cross product `a x b` (42_vector.md R101). -/
def cross3 (a b : V3) : V3 :=
  ⟨subF (sv (mulF (sv a.y) (sv b.z))) (sv (mulF (sv a.z) (sv b.y))),
   subF (sv (mulF (sv a.z) (sv b.x))) (sv (mulF (sv a.x) (sv b.z))),
   subF (sv (mulF (sv a.x) (sv b.y))) (sv (mulF (sv a.y) (sv b.x)))⟩

/-- LENSQ_f (42_vector.md R87). -/
def lensq2 (a : V2) : Word := dot2 a a

/-- LENSQ_f (42_vector.md R87). -/
def lensq3 (a : V3) : Word := dot3 a a

/-- LEN_f (42_vector.md R87). -/
def len2 (a : V2) : Word := fsqrtF (sv (lensq2 a))

/-- LEN_f (42_vector.md R87). -/
def len3 (a : V3) : Word := fsqrtF (sv (lensq3 a))

/-- NORM_f: the input unchanged where its computed length is 0 (42_vector.md R87). -/
def norm2 (a : V2) : V2 :=
  if sv (len2 a) = 0 then a else ⟨divF (sv a.x) (sv (len2 a)), divF (sv a.y) (sv (len2 a))⟩

/-- NORM_f: the input unchanged where its computed length is 0 (42_vector.md R87). -/
def norm3 (a : V3) : V3 :=
  if sv (len3 a) = 0 then a
  else ⟨divF (sv a.x) (sv (len3 a)), divF (sv a.y) (sv (len3 a)), divF (sv a.z) (sv (len3 a))⟩

/-- VADD2 (42_vector.md R89). -/
def execVadd2 (rd rs1 rs2 : Reg) (s : State) : Host.Outcome State Fault Refusal :=
  guarded (.vadd2 rd rs1 rs2) s (s.setV2 rd (add2 (s.v2 rs1) (s.v2 rs2)))

/-- VADD3 (42_vector.md R90). -/
def execVadd3 (rd rs1 rs2 : Reg) (s : State) : Host.Outcome State Fault Refusal :=
  guarded (.vadd3 rd rs1 rs2) s (s.setV3 rd (add3 (s.v3 rs1) (s.v3 rs2)))

/-- VSUB2, `A - B` (42_vector.md R91). -/
def execVsub2 (rd rs1 rs2 : Reg) (s : State) : Host.Outcome State Fault Refusal :=
  guarded (.vsub2 rd rs1 rs2) s (s.setV2 rd (sub2 (s.v2 rs1) (s.v2 rs2)))

/-- VSUB3, `A - B` (42_vector.md R92). -/
def execVsub3 (rd rs1 rs2 : Reg) (s : State) : Host.Outcome State Fault Refusal :=
  guarded (.vsub3 rd rs1 rs2) s (s.setV3 rd (sub3 (s.v3 rs1) (s.v3 rs2)))

/-- VSCALE2 (42_vector.md R93). -/
def execVscale2 (rd rs1 rs2 : Reg) (s : State) : Host.Outcome State Fault Refusal :=
  guarded (.vscale2 rd rs1 rs2) s (s.setV2 rd (scale2 (s.v2 rs1) (s.sreg rs2)))

/-- VSCALE3 (42_vector.md R94). -/
def execVscale3 (rd rs1 rs2 : Reg) (s : State) : Host.Outcome State Fault Refusal :=
  guarded (.vscale3 rd rs1 rs2) s (s.setV3 rd (scale3 (s.v3 rs1) (s.sreg rs2)))

/-- VDIVS2 (42_vector.md R95). -/
def execVdivs2 (rd rs1 rs2 : Reg) (s : State) : Host.Outcome State Fault Refusal :=
  guarded (.vdivs2 rd rs1 rs2) s (s.setV2 rd (divs2 (s.v2 rs1) (s.sreg rs2)))

/-- VDIVS3 (42_vector.md R96). -/
def execVdivs3 (rd rs1 rs2 : Reg) (s : State) : Host.Outcome State Fault Refusal :=
  guarded (.vdivs3 rd rs1 rs2) s (s.setV3 rd (divs3 (s.v3 rs1) (s.sreg rs2)))

/-- VNEG2 (42_vector.md R97). -/
def execVneg2 (rd rs1 : Reg) (s : State) : Host.Outcome State Fault Refusal :=
  guarded (.vneg2 rd rs1) s (s.setV2 rd (neg2 (s.v2 rs1)))

/-- VNEG3 (42_vector.md R98). -/
def execVneg3 (rd rs1 : Reg) (s : State) : Host.Outcome State Fault Refusal :=
  guarded (.vneg3 rd rs1) s (s.setV3 rd (neg3 (s.v3 rs1)))

/-- VDOT2 (42_vector.md R99). -/
def execVdot2 (rd rs1 rs2 : Reg) (s : State) : Host.Outcome State Fault Refusal :=
  guarded (.vdot2 rd rs1 rs2) s (s.setReg rd (dot2 (s.v2 rs1) (s.v2 rs2)))

/-- VDOT3 (42_vector.md R100). -/
def execVdot3 (rd rs1 rs2 : Reg) (s : State) : Host.Outcome State Fault Refusal :=
  guarded (.vdot3 rd rs1 rs2) s (s.setReg rd (dot3 (s.v3 rs1) (s.v3 rs2)))

/-- VCROSS3 (42_vector.md R101). -/
def execVcross3 (rd rs1 rs2 : Reg) (s : State) : Host.Outcome State Fault Refusal :=
  guarded (.vcross3 rd rs1 rs2) s (s.setV3 rd (cross3 (s.v3 rs1) (s.v3 rs2)))

/-- VEQ2: bit-exact equality of every component, no tolerance (42_vector.md R102). -/
def execVeq2 (rd rs1 rs2 : Reg) (s : State) : Host.Outcome State Fault Refusal :=
  guarded (.veq2 rd rs1 rs2) s (s.setReg rd (boolWord (decide (s.v2 rs1 = s.v2 rs2))))

/-- VEQ3: bit-exact equality of every component, no tolerance (42_vector.md R103). -/
def execVeq3 (rd rs1 rs2 : Reg) (s : State) : Host.Outcome State Fault Refusal :=
  guarded (.veq3 rd rs1 rs2) s (s.setReg rd (boolWord (decide (s.v3 rs1 = s.v3 rs2))))

/-- VLENSQ2 (42_vector.md R104). -/
def execVlensq2 (rd rs1 : Reg) (s : State) : Host.Outcome State Fault Refusal :=
  guarded (.vlensq2 rd rs1) s (s.setReg rd (lensq2 (s.v2 rs1)))

/-- VLENSQ3 (42_vector.md R105). -/
def execVlensq3 (rd rs1 : Reg) (s : State) : Host.Outcome State Fault Refusal :=
  guarded (.vlensq3 rd rs1) s (s.setReg rd (lensq3 (s.v3 rs1)))

/-- VLEN2 (42_vector.md R106). -/
def execVlen2 (rd rs1 : Reg) (s : State) : Host.Outcome State Fault Refusal :=
  guarded (.vlen2 rd rs1) s (s.setReg rd (len2 (s.v2 rs1)))

/-- VLEN3 (42_vector.md R107). -/
def execVlen3 (rd rs1 : Reg) (s : State) : Host.Outcome State Fault Refusal :=
  guarded (.vlen3 rd rs1) s (s.setReg rd (len3 (s.v3 rs1)))

/-- VNORM2 (42_vector.md R108). -/
def execVnorm2 (rd rs1 : Reg) (s : State) : Host.Outcome State Fault Refusal :=
  guarded (.vnorm2 rd rs1) s (s.setV2 rd (norm2 (s.v2 rs1)))

/-- VNORM3 (42_vector.md R109). -/
def execVnorm3 (rd rs1 : Reg) (s : State) : Host.Outcome State Fault Refusal :=
  guarded (.vnorm3 rd rs1) s (s.setV3 rd (norm3 (s.v3 rs1)))

/-- VDIST2: the length of the difference A - B (42_vector.md R110). -/
def execVdist2 (rd rs1 rs2 : Reg) (s : State) : Host.Outcome State Fault Refusal :=
  guarded (.vdist2 rd rs1 rs2) s (s.setReg rd (len2 (sub2 (s.v2 rs1) (s.v2 rs2))))

/-- VDIST3: the length of the difference A - B (42_vector.md R111). -/
def execVdist3 (rd rs1 rs2 : Reg) (s : State) : Host.Outcome State Fault Refusal :=
  guarded (.vdist3 rd rs1 rs2) s (s.setReg rd (len3 (sub3 (s.v3 rs1) (s.v3 rs2))))

end Sys2Proof.Machine
end

