-- ==== Sys2Proof/Machine/Projection.lean ====
section
/-! DEFINITION. The projection family: the two projection strategies, the sprite scale and the depth
order (44_projection.md R120 to R128). -/

namespace Sys2Proof.Machine

/-- The result of an invisible point, all four words 0 (44_projection.md R120). -/
def invisible : ProjectionResult := ⟨0, 0, 0, false⟩

/-- SCREEN_f and the choice both strategies make from it: the point in screen coordinates, Y inverted,
where it lies in the viewport widened by MARGIN on every side, bounds included, and the invisible result
elsewhere (44_projection.md R121, R122, R123). -/
def screenF (s : State) (px py scale : Int) : ProjectionResult :=
  let w : Int := s.screenW.toNat
  let h : Int := s.screenH.toNat
  let sx := sar w 1 + floorF (sv (mulF px scale))
  let sy := sar h 1 - floorF (sv (mulF py scale))
  if -margin ≤ sx ∧ sx ≤ w + margin ∧ -margin ≤ sy ∧ sy ≤ h + margin then ⟨sx, sy, scale, true⟩
  else invisible

/-- Camera.position (10_state.md R23). -/
def State.camPos (s : State) : V3 := ⟨s.camPX, s.camPY, s.camPZ⟩

/-- Camera.target (10_state.md R23). -/
def State.camTarget (s : State) : V3 := ⟨s.camTX, s.camTY, s.camTZ⟩

/-- Camera.project of a world position: depth along the normalized forward vector, inside [near, far],
scale near / depth, and the world-axis offsets of the relative position (44_projection.md R122). -/
def projectF (s : State) (p : V3) : ProjectionResult :=
  let rel := sub3 p s.camPos
  let fwd := norm3 (sub3 s.camTarget s.camPos)
  let depth := sv (dot3 rel fwd)
  if depth < sv s.camNear ∨ depth > sv s.camFar then invisible
  else screenF s (sv rel.x) (sv rel.y) (sv (divF (sv s.camNear) depth))

/-- projectSimple: invisible behind the viewer, else the depth raised to DEPTH_MIN at least
(44_projection.md R123). -/
def projectSimpleF (s : State) (p : V3) (base : Int) : ProjectionResult :=
  if sv p.z < 0 then invisible
  else
    let depth := max (sv (addF base (sv p.z))) (sv s.cfg.depthMin)
    screenF s (sv p.x) (sv p.y) (sv (divF base depth))

/-- calculateSpriteScale: the base scale unchanged and not clamped for a distance of 0 or less, else its
product with the ratio of the distances, clamped (44_projection.md R124). -/
def spriteScaleF (d bd bs : Int) : Int :=
  if d ≤ 0 then bs
  else
    let v := sar (bs * sv (divF bd d)) 16
    if v < sprMin then sprMin else if v > sprMax then sprMax else v

/-- PROJ (44_projection.md R122). -/
def execProj (rd rs1 : Reg) (s : State) : Host.Outcome State Fault Refusal :=
  guarded (.proj rd rs1) s (s.setProjection rd (projectF s (s.v3 rs1)))

/-- PROJS (44_projection.md R123). -/
def execProjs (rd rs1 rs2 : Reg) (s : State) : Host.Outcome State Fault Refusal :=
  guarded (.projs rd rs1 rs2) s (s.setProjection rd (projectSimpleF s (s.v3 rs1) (s.sreg rs2)))

/-- SPRSCALE of distance, baseDistance and baseScale (44_projection.md R124). -/
def execSprscale (rd rs1 rs2 rs3 : Reg) (s : State) : Host.Outcome State Fault Refusal :=
  .next (s.setReg rd (wrap32 (spriteScaleF (s.sreg rs1) (s.sreg rs2) (s.sreg rs3))))

/-- CMPDEPTH: only the z components are read (44_projection.md R125). -/
def execCmpdepth (rd rs1 rs2 : Reg) (s : State) : Host.Outcome State Fault Refusal :=
  guarded (.cmpdepth rd rs1 rs2) s
    (s.setReg rd (depthWord (sv (s.v3 rs1).z) (sv (s.v3 rs2).z)))

end Sys2Proof.Machine
end

