-- ==== Sys2Proof/Machine/Random.lean ====
section
/-! DEFINITION. The random family: the linear congruential generator and its four commands
(45_random.md R129 to R137). -/

namespace Sys2Proof.Machine

/-- The successor of a seed, modulo 2^32 (45_random.md R130). -/
def rngNext (c : Config) (seed : Word) : Word := c.rngA * seed + c.rngC

/-- The output of a new seed, its upper 16 bits (45_random.md R130). -/
def rngOut (seed : Word) : Int := (seed >>> rngShift).toNat

/-- The output of the one RNG_STEP a random command makes in the state (45_random.md R130). -/
def State.rngHi (s : State) : Int := rngOut (rngNext s.cfg s.rngSeed)

/-- What a random command writes, all at its completion: its result and the new seed (45_random.md R130,
30_encoding.md R51). -/
def State.setRandom (s : State) (rd : Reg) (w : Word) : State :=
  { s.setReg rd w with rngSeed := rngNext s.cfg s.rngSeed }

/-- RINT: `hi mod n`, or 0 for n <= 0; the seed advances either way (45_random.md R132). -/
def execRint (rd rs1 : Reg) (s : State) : Host.Outcome State Fault Refusal :=
  .next (s.setRandom rd (if s.sreg rs1 ≤ 0 then 0#32 else wrap32 (s.rngHi % s.sreg rs1)))

/-- RRANGE: `lo + hi mod span` with the span exact, or lo where it is empty (45_random.md R133). -/
def execRrange (rd rs1 rs2 : Reg) (s : State) : Host.Outcome State Fault Refusal :=
  .next (s.setRandom rd
    (if s.sreg rs2 - s.sreg rs1 ≤ 0 then wrap32 (s.sreg rs1)
     else wrap32 (s.sreg rs1 + s.rngHi % (s.sreg rs2 - s.sreg rs1))))

/-- RBOOL: bit 0 of the output (45_random.md R134). -/
def execRbool (rd : Reg) (s : State) : Host.Outcome State Fault Refusal :=
  .next (s.setRandom rd (wrap32 (s.rngHi % 2)))

/-- RFIX: the output as the 16 fraction bits (45_random.md R135). -/
def execRfix (rd : Reg) (s : State) : Host.Outcome State Fault Refusal :=
  .next (s.setRandom rd (wrap32 s.rngHi))

end Sys2Proof.Machine
end

