-- ==== Sys2Proof/Machine/Dispatch.lean ====
section
/-! DEFINITION. The meaning of every command: one arm per constructor of Instr, one direct call each
(30_encoding.md R51, R52). -/

namespace Sys2Proof.Machine

def exec (i : Instr) (s : State) : Host.Outcome State Fault Refusal :=
  match i with
  | .fromint rd rs1 => Sys2Proof.Machine.execFromint rd rs1 s
  | .fadd rd rs1 rs2 => Sys2Proof.Machine.execFadd rd rs1 rs2 s
  | .fsub rd rs1 rs2 => Sys2Proof.Machine.execFsub rd rs1 rs2 s
  | .fmul rd rs1 rs2 => Sys2Proof.Machine.execFmul rd rs1 rs2 s
  | .fdiv rd rs1 rs2 => Sys2Proof.Machine.execFdiv rd rs1 rs2 s
  | .fround rd rs1 => Sys2Proof.Machine.execFround rd rs1 s
  | .ffloor rd rs1 => Sys2Proof.Machine.execFfloor rd rs1 s
  | .fceil rd rs1 => Sys2Proof.Machine.execFceil rd rs1 s
  | .ffrac rd rs1 => Sys2Proof.Machine.execFfrac rd rs1 s
  | .fclamp rd rs1 rs2 rs3 => Sys2Proof.Machine.execFclamp rd rs1 rs2 rs3 s
  | .flerp rd rs1 rs2 rs3 => Sys2Proof.Machine.execFlerp rd rs1 rs2 rs3 s
  | .fcmp rd rs1 rs2 => Sys2Proof.Machine.execFcmp rd rs1 rs2 s
  | .fsqrt rd rs1 => Sys2Proof.Machine.execFsqrt rd rs1 s
  | .isqrt rd rs1 => Sys2Proof.Machine.execIsqrt rd rs1 s
  | .sin rd rs1 => Sys2Proof.Machine.execSin rd rs1 s
  | .cos rd rs1 => Sys2Proof.Machine.execCos rd rs1 s
  | .tan rd rs1 => Sys2Proof.Machine.execTan rd rs1 s
  | .atan2 rd rs1 rs2 => Sys2Proof.Machine.execAtan2 rd rs1 rs2 s
  | .deg2ang rd rs1 => Sys2Proof.Machine.execDeg2ang rd rs1 s
  | .ang2deg rd rs1 => Sys2Proof.Machine.execAng2deg rd rs1 s
  | .rad2ang rd rs1 => Sys2Proof.Machine.execRad2ang rd rs1 s
  | .ang2rad rd rs1 => Sys2Proof.Machine.execAng2rad rd rs1 s
  | .rint rd rs1 => Sys2Proof.Machine.execRint rd rs1 s
  | .rrange rd rs1 rs2 => Sys2Proof.Machine.execRrange rd rs1 rs2 s
  | .rbool rd => Sys2Proof.Machine.execRbool rd s
  | .rfix rd => Sys2Proof.Machine.execRfix rd s
  | .vadd2 rd rs1 rs2 => Sys2Proof.Machine.execVadd2 rd rs1 rs2 s
  | .vadd3 rd rs1 rs2 => Sys2Proof.Machine.execVadd3 rd rs1 rs2 s
  | .vsub2 rd rs1 rs2 => Sys2Proof.Machine.execVsub2 rd rs1 rs2 s
  | .vsub3 rd rs1 rs2 => Sys2Proof.Machine.execVsub3 rd rs1 rs2 s
  | .vscale2 rd rs1 rs2 => Sys2Proof.Machine.execVscale2 rd rs1 rs2 s
  | .vscale3 rd rs1 rs2 => Sys2Proof.Machine.execVscale3 rd rs1 rs2 s
  | .vdivs2 rd rs1 rs2 => Sys2Proof.Machine.execVdivs2 rd rs1 rs2 s
  | .vdivs3 rd rs1 rs2 => Sys2Proof.Machine.execVdivs3 rd rs1 rs2 s
  | .vneg2 rd rs1 => Sys2Proof.Machine.execVneg2 rd rs1 s
  | .vneg3 rd rs1 => Sys2Proof.Machine.execVneg3 rd rs1 s
  | .vdot2 rd rs1 rs2 => Sys2Proof.Machine.execVdot2 rd rs1 rs2 s
  | .vdot3 rd rs1 rs2 => Sys2Proof.Machine.execVdot3 rd rs1 rs2 s
  | .vcross3 rd rs1 rs2 => Sys2Proof.Machine.execVcross3 rd rs1 rs2 s
  | .veq2 rd rs1 rs2 => Sys2Proof.Machine.execVeq2 rd rs1 rs2 s
  | .veq3 rd rs1 rs2 => Sys2Proof.Machine.execVeq3 rd rs1 rs2 s
  | .vlensq2 rd rs1 => Sys2Proof.Machine.execVlensq2 rd rs1 s
  | .vlensq3 rd rs1 => Sys2Proof.Machine.execVlensq3 rd rs1 s
  | .vlen2 rd rs1 => Sys2Proof.Machine.execVlen2 rd rs1 s
  | .vlen3 rd rs1 => Sys2Proof.Machine.execVlen3 rd rs1 s
  | .vnorm2 rd rs1 => Sys2Proof.Machine.execVnorm2 rd rs1 s
  | .vnorm3 rd rs1 => Sys2Proof.Machine.execVnorm3 rd rs1 s
  | .vdist2 rd rs1 rs2 => Sys2Proof.Machine.execVdist2 rd rs1 rs2 s
  | .vdist3 rd rs1 rs2 => Sys2Proof.Machine.execVdist3 rd rs1 rs2 s
  | .proj rd rs1 => Sys2Proof.Machine.execProj rd rs1 s
  | .projs rd rs1 rs2 => Sys2Proof.Machine.execProjs rd rs1 rs2 s
  | .sprscale rd rs1 rs2 rs3 => Sys2Proof.Machine.execSprscale rd rs1 rs2 rs3 s
  | .cmpdepth rd rs1 rs2 => Sys2Proof.Machine.execCmpdepth rd rs1 rs2 s

end Sys2Proof.Machine
end

