-- ==== Sys2Proof/Machine/Window.lean ====
section
/-! DEFINITION. The register window: FXCORE's one address space (20_memory.md R32). It holds nothing of
its own: each of its words is a register of State, or is reserved (R33; log 9). -/

namespace Sys2Proof.Machine

/-- What stands at a word offset of the window (20_memory.md R33, 10_state.md R23). -/
inductive WindowReg where
  | gpr (r : Reg)
  | cmd | status | errcmd | rngSeed
  | camPX | camPY | camPZ | camTX | camTY | camTZ
  | camFov | camNear | camFar
  | screenW | screenH
  | reserved
  deriving DecidableEq, Repr

/-- The window map by word offset, the byte offset divided by 4 (20_memory.md R33, 10_state.md R23). -/
def windowReg (off : Offset) : WindowReg :=
  match off.toNat with
  | 0x10 => .cmd
  | 0x11 => .status
  | 0x12 => .errcmd
  | 0x13 => .rngSeed
  | 0x14 => .camPX
  | 0x15 => .camPY
  | 0x16 => .camPZ
  | 0x17 => .camTX
  | 0x18 => .camTY
  | 0x19 => .camTZ
  | 0x1A => .camFov
  | 0x1B => .camNear
  | 0x1C => .camFar
  | 0x1D => .screenW
  | 0x1E => .screenH
  | 0x1F => .reserved
  | n => .gpr (Fin.ofNat 16 n)

/-- The CMD register's word offset, byte offset 0x40 (10_state.md R23). -/
def cmdOffset : Offset := 0x10#5

/-- The word a read returns. Reads have no side effect; CMD and the reserved word read 0
(20_memory.md R39, R40). -/
def State.window (s : State) (off : Offset) : Word :=
  match windowReg off with
  | .gpr r => s.reg r
  | .cmd => 0#32
  | .status => s.statusWord
  | .errcmd => s.errcmd
  | .rngSeed => s.rngSeed
  | .camPX => s.camPX
  | .camPY => s.camPY
  | .camPZ => s.camPZ
  | .camTX => s.camTX
  | .camTY => s.camTY
  | .camTZ => s.camTZ
  | .camFov => s.camFov
  | .camNear => s.camNear
  | .camFar => s.camFar
  | .screenW => s.screenW.setWidth 32
  | .screenH => s.screenH.setWidth 32
  | .reserved => 0#32

/-- The byte at byte offset `a` of the window as a byte-addressed host views it, little-endian
(20_memory.md R35). -/
def State.windowByte (s : State) (a : Nat) : Byte :=
  (s.window (BitVec.ofNat 5 (a / 4))).extractLsb' (8 * (a % 4)) 8

/-- A write to any window word but CMD (20_memory.md R39): a register stores the word, a screen size its low
16 bits (10_state.md R29), STATUS is cleared by a 1 in bit 0 (R25), and a read-only or reserved word ignores
it (R40). A write to CMD is no store; it runs a command. -/
def writeReg (w : Word) (wr : WindowReg) (s : State) : State :=
  match wr with
  | .gpr r => s.setReg r w
  | .cmd => s
  | .status => if w.getLsbD 0 then clearStatus s else s
  | .errcmd => s
  | .rngSeed => { s with rngSeed := w }
  | .camPX => { s with camPX := w }
  | .camPY => { s with camPY := w }
  | .camPZ => { s with camPZ := w }
  | .camTX => { s with camTX := w }
  | .camTY => { s with camTY := w }
  | .camTZ => { s with camTZ := w }
  | .camFov => { s with camFov := w }
  | .camNear => { s with camNear := w }
  | .camFar => { s with camFar := w }
  | .screenW => { s with screenW := w.extractLsb' 0 16 }
  | .screenH => { s with screenH := w.extractLsb' 0 16 }
  | .reserved => s

/-- The word offset a host address reaches when the window sits at `base`, WINDOW_BASE: bits [6:2] of the byte
offset, its bits [1:0] ignored; none outside the 128 bytes (20_memory.md R34, R36; log 11). -/
def busOffset (base addr : Nat) : Option Offset :=
  if base ≤ addr ∧ addr < base + 128 then some (BitVec.ofNat 5 ((addr - base) / 4)) else none

end Sys2Proof.Machine
end

