-- ==== Sys2Proof/Machine/Command.lean ====
section
/-! DEFINITION. What one event does: a command word written to CMD, an access, a reset
(10_state.md R18, R24; 70_reset_and_hazards.md R152). -/

namespace Sys2Proof.Machine

/-- A host write of `w` to CMD: a legal command runs, an illegal one is recorded (10_state.md R24,
30_encoding.md R50, 60_exceptions.md R139). -/
def runCommand (w : Word) (s : State) : Host.Outcome State Fault Refusal :=
  match decode w with
  | .ok i => exec i s
  | .error c => .next (takeIllegal c w s)

/-- One access, performed whole and acknowledged (10_state.md R17, R18; 20_memory.md R39). The response is set
first, since no command reads or writes it. -/
def performAccess (a : Access) (s : State) : Host.Outcome State Fault Refusal :=
  match a with
  | .read off => .next { s with resp := .data (s.window off) }
  | .write off w =>
    match windowReg off with
    | .cmd => runCommand w { s with resp := .written }
    | wr => .next (writeReg w wr { s with resp := .written })

/-- One event. A reset puts every piece of architectural state at its reset value, acknowledges nothing and
leaves no effect of an access it catches in progress (70_reset_and_hazards.md R152, R153). The parameters
are no state and stay, and so do the events the host has still to issue (log 6). -/
def performEvent (e : Event) (s : State) : Host.Outcome State Fault Refusal :=
  match e with
  | .access a => performAccess a s
  | .rst _ => .next { State.resetWith s.cfg with host := s.host }

end Sys2Proof.Machine
end

