-- ==== Sys2Proof/Machine/Step.lean ====
section
/-! DEFINITION. One step: the host's next event, or nothing. -/

namespace Sys2Proof.Machine

/-- One step: the first waiting event is taken from the list and performed whole (10_state.md R18,
20_memory.md R43). With none waiting FXCORE is idle and holds its state (60_exceptions.md R151). -/
def step (s : State) : Host.Outcome State Fault Refusal :=
  match s.host with
  | [] => .next { s with resp := .idle }
  | e :: rest => performEvent e { s with host := rest }

/-- The state with a host write of `w` to CMD as the next event, so that the very next step runs it: FXCORE
fetches nothing, a command is the word the host writes to CMD (20_memory.md R46; log 13). -/
def State.withFetchWord (s : State) (nbits w : Nat) : State :=
  { s with host := .access (.write cmdOffset (BitVec.ofNat 32 (w % 2 ^ nbits))) :: s.host }

end Sys2Proof.Machine
end

