-- ==== Sys2Proof/Safety.lean ====
section
/-! DEFINITION. The terms the claims use: the invariant of the machine, what a command leaves unchanged, and
the spec's arithmetic written a second time on 64-bit words and on quotients. -/

namespace Sys2Proof.Safety

open Sys2Proof.Machine

/-- STATUS and ERRCMD agree. With ERR set, ERRCMD is an illegal command word and CAUSE is the code of its
first failing check; with ERR clear, OVR, CAUSE and ERRCMD are 0 (10_state.md R25, R26;
60_exceptions.md R139, R140). -/
def statusOk (s : State) : Bool :=
  if s.err then
    match decode s.errcmd with
    | .error c => decide (s.cause = causeCode c)
    | .ok _ => false
  else !s.ovr && decide (s.cause = 0#4) && decide (s.errcmd = 0#32)

/-- The invariant: STATUS and ERRCMD agree, and the parameters meet the spec's constraint on them. A state
that has it is a good one; FXCORE has no other notion of a bad state, since nothing stops it
(60_exceptions.md R138). -/
def inv (s : State) : Bool := statusOk s && s.cfg.legal

/-- `a` is a byte offset of one of the `k` registers from `r` on (20_memory.md R33). -/
def regBytes (r : Reg) (k : Nat) (a : Nat) : Prop := 4 * r.val ≤ a ∧ a < 4 * (r.val + k)

/-- `a` is a byte offset of RNG_SEED (10_state.md R23). -/
def seedBytes (a : Nat) : Prop := 0x4C ≤ a ∧ a < 0x50

/-- Every byte of the register window outside `P` reads the same in `t` as in `s`. The window shows every
piece of architectural state (60_exceptions.md R150). The model's own fields are the same too. -/
def UnchangedOutside (P : Nat → Prop) (s t : State) : Prop :=
  (∀ a, a < 128 → ¬ P a → t.windowByte a = s.windowByte a) ∧
    t.cfg = s.cfg ∧ t.host = s.host ∧ t.resp = s.resp

/-- The command answers a next state in which `rd` holds `w` and nothing else has changed. -/
def Writes1 (i : Instr) (s : State) (rd : Reg) (w : Word) : Prop :=
  ∃ t, exec i s = .next t ∧ t.reg rd = w ∧ UnchangedOutside (regBytes rd 1) s t

/-- The command answers a next state in which the group of 2 at `rd` holds `x`, `y` and nothing else has
changed. -/
def Writes2 (i : Instr) (s : State) (rd : Reg) (x y : Word) : Prop :=
  ∃ t, exec i s = .next t ∧ t.reg rd = x ∧ t.reg (groupReg rd 1) = y ∧
    UnchangedOutside (regBytes rd 2) s t

/-- The command answers a next state in which the group of 3 at `rd` holds `x`, `y`, `z` and nothing else
has changed. -/
def Writes3 (i : Instr) (s : State) (rd : Reg) (x y z : Word) : Prop :=
  ∃ t, exec i s = .next t ∧ t.reg rd = x ∧ t.reg (groupReg rd 1) = y ∧ t.reg (groupReg rd 2) = z ∧
    UnchangedOutside (regBytes rd 3) s t

/-- The command answers a next state in which the group of 4 at `rd` holds `x`, `y`, `z`, `u` and nothing
else has changed. -/
def Writes4 (i : Instr) (s : State) (rd : Reg) (x y z u : Word) : Prop :=
  ∃ t, exec i s = .next t ∧ t.reg rd = x ∧ t.reg (groupReg rd 1) = y ∧ t.reg (groupReg rd 2) = z ∧
    t.reg (groupReg rd 3) = u ∧ UnchangedOutside (regBytes rd 4) s t

/-- The command answers a next state in which `rd` holds `w`, RNG_SEED holds `seed` and nothing else has
changed. -/
def WritesSeed (i : Instr) (s : State) (rd : Reg) (w seed : Word) : Prop :=
  ∃ t, exec i s = .next t ∧ t.reg rd = w ∧ t.rngSeed = seed ∧
    UnchangedOutside (fun a => regBytes rd 1 a ∨ seedBytes a) s t

/-- The FixedPoint product on 64-bit words: widen both operands, multiply, shift right arithmetically by 16,
keep the low 32 bits (40_fixed_point.md R57, the source's own words). -/
def mulVia64 (a b : Word) : Word :=
  ((a.signExtend 64 * b.signExtend 64).sshiftRight 16).setWidth 32

/-- `q` is `n / d` truncated toward zero: the remainder is smaller than `d` and has the sign of `n`
(00_scope.md R12). -/
def IsTruncQuot (n d q : Int) : Prop :=
  ∃ r, n = q * d + r ∧ r.natAbs < d.natAbs ∧ (0 ≤ n → 0 ≤ r) ∧ (n ≤ 0 → r ≤ 0)

/-- `w` is the FixedPoint quotient of `a` by `b`: 0 for a zero divisor, else the truncated quotient of the
dividend widened by 16 bits, modulo 2^32 (40_fixed_point.md R57, R62). -/
def IsFixQuot (a b w : Word) : Prop :=
  if b = 0#32 then w = 0#32
  else ∃ q, IsTruncQuot (a.toInt * 65536) b.toInt q ∧ w = BitVec.ofInt 32 q

/-- `w` is the last of the nine guesses of eight Newton steps: the first is `g0`, each next one is half the
sum of the last and its quotient, and a zero guess stays (43_sqrt.md R113, R119). -/
def IsNewtonRoot (quot : Int → Int) (g0 w : Int) : Prop :=
  ∃ g : Nat → Int, g 0 = g0 ∧ g 8 = w ∧
    ∀ k, k < 8 → g (k + 1) = if g k = 0 then 0 else (g k + quot (g k)) / 2

/-- `w` is the FixedPoint square root of `x` as 43_sqrt.md R114 computes it, each quotient that of the
FixedPoint division. -/
def IsFixRoot (x w : Word) : Prop :=
  if x.toInt ≤ 0 then w = 0#32
  else ∃ g, IsNewtonRoot (fun k => (divF x.toInt k).toInt)
      (if x.toInt < 65536 then x.toInt else x.toInt / 2) g ∧ w = BitVec.ofInt 32 g

/-- The dot product on words, k = 2 (42_vector.md R87). -/
def dotVia64 (a b : V2) : Word := mulVia64 a.x b.x + mulVia64 a.y b.y

/-- The dot product on words, k = 3 (42_vector.md R87). -/
def dot3Via64 (a b : V3) : Word := mulVia64 a.x b.x + mulVia64 a.y b.y + mulVia64 a.z b.z

/-- `n` is the Vector2 `a` normalized: its components divided by the root of its squared length, and `a`
itself where that root is 0 (42_vector.md R87). -/
def IsNorm2 (a n : V2) : Prop :=
  ∃ len, IsFixRoot (dotVia64 a a) len ∧
    if len = 0#32 then n = a else IsFixQuot a.x len n.x ∧ IsFixQuot a.y len n.y

/-- `n` is the Vector3 `a` normalized (42_vector.md R87). -/
def IsNorm3 (a n : V3) : Prop :=
  ∃ len, IsFixRoot (dot3Via64 a a) len ∧
    if len = 0#32 then n = a
    else IsFixQuot a.x len n.x ∧ IsFixQuot a.y len n.y ∧ IsFixQuot a.z len n.z

/-- The screen point of an offset `px`, `py` (words) under a scale, in exact integers, Y inverted
(44_projection.md R121). -/
def screenPoint (s : State) (px py scale : Word) : Int × Int :=
  ((s.screenW.toNat : Int) / 2 + (mulVia64 px scale).toInt / 65536,
   (s.screenH.toNat : Int) / 2 - (mulVia64 py scale).toInt / 65536)

/-- The point lies in the viewport widened by 32 pixels on every side, bounds included
(44_projection.md R121). -/
def onScreen (s : State) (p : Int × Int) : Prop :=
  -32 ≤ p.1 ∧ p.1 ≤ (s.screenW.toNat : Int) + 32 ∧ -32 ≤ p.2 ∧ p.2 ≤ (s.screenH.toNat : Int) + 32

/-- A row of the opcode map: the word of `i` holds the opcode and the four register fields at their places, and
`i` is well formed exactly where each field's class, `k` registers from the field on, ends at R15 at the
latest. A field is given with its `k`, and an unused one as `(0, 1)` (30_encoding.md R48, R49, R52). -/
def OpcodeRow (i : Instr) (op : Nat) (rd rs1 rs2 rs3 : Reg × Nat) : Prop :=
  (encode i).toNat =
      op * 2 ^ 26 + rd.1.val * 2 ^ 22 + rs1.1.val * 2 ^ 18 + rs2.1.val * 2 ^ 14 + rs3.1.val * 2 ^ 10 ∧
    (i.wellFormed = true ↔
      rd.1.val + rd.2 ≤ 16 ∧ rs1.1.val + rs1.2 ≤ 16 ∧ rs2.1.val + rs2.2 ≤ 16 ∧ rs3.1.val + rs3.2 ≤ 16)

/-- A command of the random family (45_random.md). -/
def isRandom : Instr → Bool
  | .rint _ _ => true
  | .rrange _ _ _ => true
  | .rbool _ => true
  | .rfix _ => true
  | _ => false

/-- PROJ, the one command that reads the camera (10_state.md R28). -/
def isProj : Instr → Bool
  | .proj _ _ => true
  | _ => false

/-- Run a list of commands one after another. -/
def execAll : List Instr → State → Host.Outcome State Fault Refusal
  | [], s => .next s
  | i :: is, s =>
    match exec i s with
    | .next t => execAll is t
    | .fault r => .fault r
    | .refused r => .refused r

end Sys2Proof.Safety
end

