-- ==== Sys2Proof/Certificates/Slice0/Obligations.lean ====
section
/-! DEFINITION. The statements for the provers. Each docstring says which rule of spec/ it formalises. A
statement about a command says that the command answers a next state, what it writes, and that every other
byte of the register window and every other field is unchanged (Writes1 to Writes4, WritesSeed of
Sys2Proof/Safety.lean). -/

open Sys2Proof Sys2Proof.Machine Sys2Proof.Safety

/-! ## Encoding -/

/-- Decoding the word of a well-formed command gives the command back, with every register field at every
value (30_encoding.md R48, R52). -/
def Obligations.DecodeEncodeRoundTrip : Prop :=
  ∀ i : Instr, i.wellFormed = true → decode (encode i) = .ok i

/-- A word that decodes is the word of its command, and the command is well formed: no word has a second
reading (30_encoding.md R48, R50). -/
def Obligations.EncodeDecodeRoundTrip : Prop :=
  ∀ (w : Word) (i : Instr), decode w = .ok i → encode i = w ∧ i.wellFormed = true

/-- Every illegal word gets the cause of its first failing check, in the order of 30_encoding.md R50: the
opcode names no command; the reserved field is not 0; no register fields give the word, so an unused one is
not 0; a register group reaches past R15. -/
def Obligations.DecodeCauseIsFirstFailingCheck : Prop :=
  ∀ w : Word,
    (decode w = .error .undefOp ↔ ∀ i : Instr, i.opcode ≠ opField w) ∧
    (decode w = .error .rsvBits ↔
      (∃ i : Instr, i.opcode = opField w) ∧ w.extractLsb' 0 10 ≠ 0#10) ∧
    (decode w = .error .unusedField ↔
      (∃ i : Instr, i.opcode = opField w) ∧ w.extractLsb' 0 10 = 0#10 ∧ ∀ i : Instr, encode i ≠ w) ∧
    (decode w = .error .groupRange ↔ ∃ i : Instr, encode i = w ∧ i.wellFormed = false)

/-- The eleven unassigned opcodes are the ones that give cause 1 (30_encoding.md R53). -/
def Obligations.UnassignedOpcodesAreIllegal : Prop :=
  ∀ w : Word, decode w = .error .undefOp ↔
    w.toNat / 2 ^ 26 ∈ [0x00, 0x0F, 0x1C, 0x1D, 0x1E, 0x1F, 0x2F, 0x3C, 0x3D, 0x3E, 0x3F]

/-- The word of every command is op, rd, rs1, rs2, rs3 and ten zeros from the top down, with the opcode of the
opcode map, and a command is well formed exactly where every register of its operand classes exists: one
row for each command, with the registers each field's class names (30_encoding.md R48, R52). -/
def Obligations.CommandsFollowTheOpcodeMap : Prop :=
  ∀ a b c d : Reg,
    OpcodeRow (.fromint a b) 0x01 (a, 1) (b, 1) (0, 1) (0, 1) ∧
    OpcodeRow (.fadd a b c) 0x02 (a, 1) (b, 1) (c, 1) (0, 1) ∧
    OpcodeRow (.fsub a b c) 0x03 (a, 1) (b, 1) (c, 1) (0, 1) ∧
    OpcodeRow (.fmul a b c) 0x04 (a, 1) (b, 1) (c, 1) (0, 1) ∧
    OpcodeRow (.fdiv a b c) 0x05 (a, 1) (b, 1) (c, 1) (0, 1) ∧
    OpcodeRow (.fround a b) 0x06 (a, 1) (b, 1) (0, 1) (0, 1) ∧
    OpcodeRow (.ffloor a b) 0x07 (a, 1) (b, 1) (0, 1) (0, 1) ∧
    OpcodeRow (.fceil a b) 0x08 (a, 1) (b, 1) (0, 1) (0, 1) ∧
    OpcodeRow (.ffrac a b) 0x09 (a, 1) (b, 1) (0, 1) (0, 1) ∧
    OpcodeRow (.fclamp a b c d) 0x0A (a, 1) (b, 1) (c, 1) (d, 1) ∧
    OpcodeRow (.flerp a b c d) 0x0B (a, 1) (b, 1) (c, 1) (d, 1) ∧
    OpcodeRow (.fcmp a b c) 0x0C (a, 1) (b, 1) (c, 1) (0, 1) ∧
    OpcodeRow (.fsqrt a b) 0x0D (a, 1) (b, 1) (0, 1) (0, 1) ∧
    OpcodeRow (.isqrt a b) 0x0E (a, 1) (b, 1) (0, 1) (0, 1) ∧
    OpcodeRow (.sin a b) 0x10 (a, 1) (b, 1) (0, 1) (0, 1) ∧
    OpcodeRow (.cos a b) 0x11 (a, 1) (b, 1) (0, 1) (0, 1) ∧
    OpcodeRow (.tan a b) 0x12 (a, 1) (b, 1) (0, 1) (0, 1) ∧
    OpcodeRow (.atan2 a b c) 0x13 (a, 1) (b, 1) (c, 1) (0, 1) ∧
    OpcodeRow (.deg2ang a b) 0x14 (a, 1) (b, 1) (0, 1) (0, 1) ∧
    OpcodeRow (.ang2deg a b) 0x15 (a, 1) (b, 1) (0, 1) (0, 1) ∧
    OpcodeRow (.rad2ang a b) 0x16 (a, 1) (b, 1) (0, 1) (0, 1) ∧
    OpcodeRow (.ang2rad a b) 0x17 (a, 1) (b, 1) (0, 1) (0, 1) ∧
    OpcodeRow (.rint a b) 0x18 (a, 1) (b, 1) (0, 1) (0, 1) ∧
    OpcodeRow (.rrange a b c) 0x19 (a, 1) (b, 1) (c, 1) (0, 1) ∧
    OpcodeRow (.rbool a) 0x1A (a, 1) (0, 1) (0, 1) (0, 1) ∧
    OpcodeRow (.rfix a) 0x1B (a, 1) (0, 1) (0, 1) (0, 1) ∧
    OpcodeRow (.vadd2 a b c) 0x20 (a, 2) (b, 2) (c, 2) (0, 1) ∧
    OpcodeRow (.vadd3 a b c) 0x21 (a, 3) (b, 3) (c, 3) (0, 1) ∧
    OpcodeRow (.vsub2 a b c) 0x22 (a, 2) (b, 2) (c, 2) (0, 1) ∧
    OpcodeRow (.vsub3 a b c) 0x23 (a, 3) (b, 3) (c, 3) (0, 1) ∧
    OpcodeRow (.vscale2 a b c) 0x24 (a, 2) (b, 2) (c, 1) (0, 1) ∧
    OpcodeRow (.vscale3 a b c) 0x25 (a, 3) (b, 3) (c, 1) (0, 1) ∧
    OpcodeRow (.vdivs2 a b c) 0x26 (a, 2) (b, 2) (c, 1) (0, 1) ∧
    OpcodeRow (.vdivs3 a b c) 0x27 (a, 3) (b, 3) (c, 1) (0, 1) ∧
    OpcodeRow (.vneg2 a b) 0x28 (a, 2) (b, 2) (0, 1) (0, 1) ∧
    OpcodeRow (.vneg3 a b) 0x29 (a, 3) (b, 3) (0, 1) (0, 1) ∧
    OpcodeRow (.vdot2 a b c) 0x2A (a, 1) (b, 2) (c, 2) (0, 1) ∧
    OpcodeRow (.vdot3 a b c) 0x2B (a, 1) (b, 3) (c, 3) (0, 1) ∧
    OpcodeRow (.vcross3 a b c) 0x2C (a, 3) (b, 3) (c, 3) (0, 1) ∧
    OpcodeRow (.veq2 a b c) 0x2D (a, 1) (b, 2) (c, 2) (0, 1) ∧
    OpcodeRow (.veq3 a b c) 0x2E (a, 1) (b, 3) (c, 3) (0, 1) ∧
    OpcodeRow (.vlensq2 a b) 0x30 (a, 1) (b, 2) (0, 1) (0, 1) ∧
    OpcodeRow (.vlensq3 a b) 0x31 (a, 1) (b, 3) (0, 1) (0, 1) ∧
    OpcodeRow (.vlen2 a b) 0x32 (a, 1) (b, 2) (0, 1) (0, 1) ∧
    OpcodeRow (.vlen3 a b) 0x33 (a, 1) (b, 3) (0, 1) (0, 1) ∧
    OpcodeRow (.vnorm2 a b) 0x34 (a, 2) (b, 2) (0, 1) (0, 1) ∧
    OpcodeRow (.vnorm3 a b) 0x35 (a, 3) (b, 3) (0, 1) (0, 1) ∧
    OpcodeRow (.vdist2 a b c) 0x36 (a, 1) (b, 2) (c, 2) (0, 1) ∧
    OpcodeRow (.vdist3 a b c) 0x37 (a, 1) (b, 3) (c, 3) (0, 1) ∧
    OpcodeRow (.proj a b) 0x38 (a, 4) (b, 3) (0, 1) (0, 1) ∧
    OpcodeRow (.projs a b c) 0x39 (a, 4) (b, 3) (c, 1) (0, 1) ∧
    OpcodeRow (.sprscale a b c d) 0x3A (a, 1) (b, 1) (c, 1) (d, 1) ∧
    OpcodeRow (.cmpdepth a b c) 0x3B (a, 1) (b, 3) (c, 3) (0, 1)

/-- The seven words of 30_encoding.md R56 decode to their commands and are their encodings. -/
def Obligations.ExampleWordsDecode : Prop :=
  (decode 0x08C48000#32 = .ok (.fadd 3 1 2) ∧ encode (.fadd 3 1 2) = 0x08C48000#32) ∧
  (decode 0x10000000#32 = .ok (.fmul 0 0 0) ∧ encode (.fmul 0 0 0) = 0x10000000#32) ∧
  (decode 0x29048C00#32 = .ok (.fclamp 4 1 2 3) ∧ encode (.fclamp 4 1 2 3) = 0x29048C00#32) ∧
  (decode 0x41580000#32 = .ok (.sin 5 6) ∧ encode (.sin 5 6) = 0x41580000#32) ∧
  (decode 0xB180C000#32 = .ok (.vcross3 6 0 3) ∧ encode (.vcross3 6 0 3) = 0xB180C000#32) ∧
  (decode 0xE700C000#32 = .ok (.projs 12 0 3) ∧ encode (.projs 12 0 3) = 0xE700C000#32) ∧
  (decode 0x68400000#32 = .ok (.rbool 1) ∧ encode (.rbool 1) = 0x68400000#32)

/-! ## Steps, STATUS, the window and reset -/

/-- A host write to CMD of a word that decodes to a command runs that command, in the state whose event list
has lost the write and whose response is the acknowledgement (10_state.md R24; log 4, 5). -/
def Obligations.StepRunsDecodedCommand : Prop :=
  ∀ (s : State) (w : Word) (rest : List Event) (i : Instr),
    s.host = .access (.write 0x10#5 w) :: rest → decode w = .ok i →
    step s = exec i { s with host := rest, resp := .written }

/-- A host write to CMD of an illegal word completes. The first one since the last clear sets ERR, its cause
code and ERRCMD; a later one sets OVR and keeps both. No other word of the window changes (60_exceptions.md
R139). -/
def Obligations.StepRecordsIllegalWord : Prop :=
  ∀ (s : State) (w : Word) (rest : List Event) (c : Cause),
    s.host = .access (.write 0x10#5 w) :: rest → decode w = .error c →
    ∃ t, step s = .next t ∧ t.resp = .written ∧ t.host = rest ∧ t.cfg = s.cfg ∧
      (∀ off : Offset, off ≠ 0x11#5 → off ≠ 0x12#5 → t.window off = s.window off) ∧
      t.err = true ∧
      (s.err = false → t.ovr = s.ovr ∧ t.errcmd = w ∧
        t.cause = match c with
          | .undefOp => 1#4 | .rsvBits => 2#4 | .unusedField => 3#4 | .groupRange => 4#4) ∧
      (s.err = true → t.ovr = true ∧ t.errcmd = s.errcmd ∧ t.cause = s.cause)

/-- A STATUS write is acknowledged. With bit 0 set it makes ERR, OVR, CAUSE and ERRCMD 0, with bit 0 clear it
changes nothing, and neither touches another register (10_state.md R25, 20_memory.md R39, R43). -/
def Obligations.StatusWriteClearsOnBit0 : Prop :=
  ∀ (s : State) (w : Word) (rest : List Event),
    s.host = .access (.write 0x11#5 w) :: rest →
    ∃ t, step s = .next t ∧ t.resp = .written ∧ t.host = rest ∧
      (∀ off : Offset, off ≠ 0x11#5 → off ≠ 0x12#5 → t.window off = s.window off) ∧
      (w.toNat % 2 = 1 → t.err = false ∧ t.ovr = false ∧ t.cause = 0#4 ∧ t.errcmd = 0#32) ∧
      (w.toNat % 2 = 0 → t.err = s.err ∧ t.ovr = s.ovr ∧ t.cause = s.cause ∧ t.errcmd = s.errcmd)

/-- STATUS reads ERR in bit 0, OVR in bit 1, CAUSE in bits [7:4] and 0 everywhere else (10_state.md
R25). -/
def Obligations.StatusReadsItsFields : Prop :=
  ∀ s : State, (s.window 0x11#5).toNat =
    (if s.err then 1 else 0) + (if s.ovr then 2 else 0) + 16 * s.cause.toNat

/-- A write to a window word other than CMD and STATUS is acknowledged, whatever comes after it, and stores all
32 bits, the low 16 for the screen sizes and nothing for ERRCMD and the reserved word; every other word
stays. A read of any word right behind it is acknowledged with what that word then holds (20_memory.md R39,
R43). -/
def Obligations.ReadReturnsLastWrite : Prop :=
  ∀ (s : State) (off : Offset) (w : Word) (rest : List Event), off ≠ 0x10#5 → off ≠ 0x11#5 →
    s.host = .access (.write off w) :: rest →
    ∃ u, step s = .next u ∧ u.resp = .written ∧ u.host = rest ∧
      ∀ (off' : Offset) (after : Word),
        after = (if off' ≠ off ∨ off = 0x12#5 ∨ off = 0x1F#5 then s.window off'
          else if off = 0x1D#5 ∨ off = 0x1E#5 then w &&& 0xFFFF#32
          else w) →
        u.window off' = after ∧
        ∀ rest', rest = .access (.read off') :: rest' →
          ∃ t, core.run 2 s = .next t ∧ t.resp = .data after ∧ t.host = rest'

/-- A read of any word is acknowledged with that word and has no side effect, whatever comes after it: nothing
but the event list and the response has changed. It is idempotent: a second read, of the same word for
instance, returns what it would have returned first (20_memory.md R39). -/
def Obligations.ReadsHaveNoSideEffect : Prop :=
  ∀ (s : State) (off : Offset) (rest : List Event), s.host = .access (.read off) :: rest →
    step s = .next { s with host := rest, resp := .data (s.window off) } ∧
    ∀ (off' : Offset) (rest' : List Event), rest = .access (.read off') :: rest' →
      core.run 2 s = .next { s with host := rest', resp := .data (s.window off') }

/-- What a read of each window word returns: the register that 20_memory.md R33 and 10_state.md R23 put there,
and 0 for CMD and the reserved word (R40). -/
def Obligations.WindowMap : Prop :=
  ∀ s : State, (∀ r : Reg, s.window (BitVec.ofNat 5 r.val) = s.reg r) ∧
    s.window 0x10#5 = 0#32 ∧ s.window 0x12#5 = s.errcmd ∧ s.window 0x13#5 = s.rngSeed ∧
    s.window 0x14#5 = s.camPX ∧ s.window 0x15#5 = s.camPY ∧ s.window 0x16#5 = s.camPZ ∧
    s.window 0x17#5 = s.camTX ∧ s.window 0x18#5 = s.camTY ∧ s.window 0x19#5 = s.camTZ ∧
    s.window 0x1A#5 = s.camFov ∧ s.window 0x1B#5 = s.camNear ∧ s.window 0x1C#5 = s.camFar ∧
    (s.window 0x1D#5).toNat = s.screenW.toNat ∧ (s.window 0x1E#5).toNat = s.screenH.toNat ∧
    s.window 0x1F#5 = 0#32

/-- The byte view is little-endian: the four bytes from offset 4k on make word k, the last one uppermost
(20_memory.md R35). -/
def Obligations.ByteViewIsLittleEndian : Prop :=
  ∀ (s : State) (k : Nat), k < 32 →
    (s.window (BitVec.ofNat 5 k)).toNat =
      (s.windowByte (4 * k)).toNat + 2 ^ 8 * (s.windowByte (4 * k + 1)).toNat +
      2 ^ 16 * (s.windowByte (4 * k + 2)).toNat + 2 ^ 24 * (s.windowByte (4 * k + 3)).toNat

/-- A host address inside the window reaches the word of its offset, its two low bits ignored (20_memory.md R34,
R36; WINDOW_BASE is the argument `base`). That an address outside the 128 bytes reaches no word is the
model's choice (log 11). -/
def Obligations.BusAddressesReachTheWindow : Prop :=
  ∀ base addr : Nat,
    (∀ k j, k < 32 → j < 4 → busOffset base (base + 4 * k + j) = some (BitVec.ofNat 5 k)) ∧
    (addr < base ∨ base + 128 ≤ addr → busOffset base addr = none)

/-- A reset, whether or not it catches an access in progress, puts every piece of architectural state at the
value of 70_reset_and_hazards.md R153 and acknowledges nothing (R152), whatever the state was. The sine table
is unaffected (R153); that the other parameters stay too is the model's choice (log 6). -/
def Obligations.ResetGivesTheResetValues : Prop :=
  ∀ (s : State) (p : Option Access) (rest : List Event), s.host = .rst p :: rest →
    ∃ t, step s = .next t ∧ t.resp = .idle ∧ (∀ r : Reg, t.reg r = 0#32) ∧
      t.err = false ∧ t.ovr = false ∧ t.cause = 0#4 ∧ t.errcmd = 0#32 ∧ t.rngSeed = s.cfg.resetSeed ∧
      t.camPX = 0#32 ∧ t.camPY = 0#32 ∧ t.camPZ = 0#32 ∧ t.camTX = 0#32 ∧ t.camTY = 0#32 ∧
      t.camTZ = 0#32 ∧ t.camFov = 0#32 ∧ t.camNear = 0#32 ∧ t.camFar = 0#32 ∧
      t.screenW = 240#16 ∧ t.screenH = 160#16 ∧ t.window 0x10#5 = 0#32 ∧ t.window 0x11#5 = 0#32 ∧
      t.cfg = s.cfg

/-- With no event waiting a step changes nothing but the response, which shows no acknowledgement: FXCORE is
idle and holds its state (60_exceptions.md R151; that an idle machine takes a step is the model's choice,
log 4). -/
def Obligations.IdleHoldsTheState : Prop :=
  ∀ s : State, s.host = [] →
    ∃ t, step s = .next t ∧ t.resp = .idle ∧ t.host = [] ∧ UnchangedOutside (fun _ => False)
      { s with resp := .idle } t

/-- Nothing stops FXCORE: from every state a step answers a next state, and it takes exactly the first waiting
event, a command or another access (60_exceptions.md R138, R139; 20_memory.md R40, R43) or a reset
(70_reset_and_hazards.md R152). That a step with no event waiting answers too, the idle machine of
60_exceptions.md R151, and that no step writes a parameter, is the model's choice (log 4, 1). -/
def Obligations.EveryStepCompletes : Prop :=
  ∀ s : State, ∃ t, step s = .next t ∧ t.host = s.host.tail ∧ t.cfg = s.cfg

/-! ## Invariants and whole-machine rules -/

/-- The reset state has the invariant. -/
def Obligations.ResetHasInvariant : Prop := inv State.reset = true

/-- Every step keeps the invariant: with ERR set, ERRCMD is an illegal word and CAUSE the code of its first
failing check; with ERR clear, OVR, CAUSE and ERRCMD are 0; and the parameters stay legal (10_state.md R25,
R26; 60_exceptions.md R139, R140). -/
def Obligations.StepKeepsInvariant : Prop :=
  ∀ s t : State, inv s = true → step s = .next t → inv t = true

/-- CAUSE never reads as anything but 0 to 4: in a state that has the invariant and after any number of steps
from it (10_state.md R25). -/
def Obligations.CauseStaysLegal : Prop :=
  ∀ (s t : State) (n : Nat), inv s = true → core.run n s = .next t → t.cause.toNat ≤ 4

/-- A legal command never writes STATUS or ERRCMD, nor any control register but RNG_SEED, and that only if it
is a random command (30_encoding.md R51, 45_random.md R130). -/
def Obligations.LegalCommandsKeepControlRegisters : Prop :=
  ∀ (i : Instr) (s : State), i.wellFormed = true →
    ∃ t, exec i s = .next t ∧
      (∀ off : Offset, 16 ≤ off.toNat → off ≠ 0x13#5 → t.window off = s.window off) ∧
      (isRandom i = false → t.rngSeed = s.rngSeed) ∧
      t.cfg = s.cfg ∧ t.host = s.host ∧ t.resp = s.resp

/-- A random command advances the seed exactly once, by the generator's rule, whatever its operands
(45_random.md R130). -/
def Obligations.RandomCommandsAdvanceTheSeedOnce : Prop :=
  ∀ (i : Instr) (s : State), isRandom i = true →
    ∃ t, exec i s = .next t ∧
      t.rngSeed.toNat = (s.cfg.rngA.toNat * s.rngSeed.toNat + s.cfg.rngC.toNat) % 2 ^ 32

/-- Two machines with the same parameters, the same seed and the same operand registers, given the same random
commands, end with the same seed and the same registers, whatever else they hold; and the seed they end
with, which gives the next output, depends on how many random commands came before and not on which
(45_random.md R131). -/
def Obligations.RandomSequenceIsDeterministic : Prop :=
  ∀ (is js : List Instr) (s s' : State), (∀ i ∈ is, isRandom i = true) →
    s'.cfg = s.cfg → s'.rngSeed = s.rngSeed → s'.regs = s.regs →
    ∃ t t', execAll is s = .next t ∧ execAll is s' = .next t' ∧
      t'.rngSeed = t.rngSeed ∧ t'.regs = t.regs ∧
      ((∀ j ∈ js, isRandom j = true) → js.length = is.length →
        ∃ u, execAll js s = .next u ∧ u.rngSeed = t.rngSeed)

/-- CAM_FOV is stored and read back. No command reads it, and no command but PROJ reads another camera register:
changing them changes nothing that the command writes (10_state.md R28). -/
def Obligations.CameraIsReadByProjOnly : Prop :=
  ∀ (i : Instr) (s : State) (fov px py pz tx ty tz near far : Word),
    (∀ rest, s.host = .access (.write 0x1A#5 fov) :: rest →
      ∃ t, step s = .next t ∧ t.window 0x1A#5 = fov) ∧
    (∃ t t', exec i s = .next t ∧ exec i { s with camFov := fov } = .next t' ∧
      t' = { t with camFov := fov }) ∧
    (isProj i = false → ∃ t t', exec i s = .next t ∧
      exec i { s with camPX := px, camPY := py, camPZ := pz, camTX := tx, camTY := ty, camTZ := tz,
                      camNear := near, camFar := far } = .next t' ∧
      t' = { t with camPX := px, camPY := py, camPZ := pz, camTX := tx, camTY := ty, camTZ := tz,
                    camNear := near, camFar := far })

/-- A command whose register group reaches past R15 takes the illegal-command event GROUP_RANGE for its word and
writes no register (10_state.md R20, 30_encoding.md R50; that exec is asked about such a term at all is the
model's choice, log 10). -/
def Obligations.GroupPastR15TakesIllegalCommand : Prop :=
  ∀ (i : Instr) (s : State), i.wellFormed = false →
    ∃ t, exec i s = .next t ∧ (∀ r : Reg, t.reg r = s.reg r) ∧ t.rngSeed = s.rngSeed ∧ t.err = true ∧
      (s.err = false → t.cause = 4#4 ∧ t.errcmd = encode i ∧ t.ovr = s.ovr) ∧
      (s.err = true → t.ovr = true ∧ t.cause = s.cause ∧ t.errcmd = s.errcmd)

/-- The registers of a group that fits are consecutive, from its base on (10_state.md R20). -/
def Obligations.GroupRegistersAreConsecutive : Prop :=
  ∀ (r : Reg) (k j : Nat), groupFits r k = true → j < k → (groupReg r j).val = r.val + j

/-! ## FixedPoint -/

/-- FROMINT shifts the integer left by 16, FADD and FSUB add and subtract, all modulo 2^32
(40_fixed_point.md R58, R59, R60). -/
def Obligations.FromintAddSubtractWrap : Prop :=
  ∀ (s : State) (rd rs1 rs2 : Reg),
    Writes1 (.fromint rd rs1) s rd (BitVec.ofNat 32 ((s.reg rs1).toNat * 65536)) ∧
    Writes1 (.fadd rd rs1 rs2) s rd (s.reg rs1 + s.reg rs2) ∧
    Writes1 (.fsub rd rs1 rs2) s rd (s.reg rs1 - s.reg rs2)

/-- FMUL widens to 64 bits, multiplies, shifts right arithmetically by 16 and keeps the low 32 bits
(40_fixed_point.md R61). -/
def Obligations.MultiplyWidensAndFloors : Prop :=
  ∀ (s : State) (rd rs1 rs2 : Reg),
    Writes1 (.fmul rd rs1 rs2) s rd (mulVia64 (s.reg rs1) (s.reg rs2))

/-- FDIV gives 0 for a zero divisor, and else the quotient of the widened dividend truncated toward zero, modulo
2^32 (40_fixed_point.md R62). -/
def Obligations.DivideTruncatesOrGivesZero : Prop :=
  ∀ (s : State) (rd rs1 rs2 : Reg),
    ∃ w, IsFixQuot (s.reg rs1) (s.reg rs2) w ∧ Writes1 (.fdiv rd rs1 rs2) s rd w

/-- FROUND adds one half and floors; FFLOOR gives the largest integer not above the value; FCEIL the smallest one
not below it; FFRAC the value less its floor. Each is exact, as an integer (40_fixed_point.md R63 to
R66). -/
def Obligations.RoundFloorCeilFrac : Prop :=
  ∀ (s : State) (rd rs1 : Reg),
    (∃ w, (w.toInt * 65536 ≤ (s.reg rs1).toInt + 32768 ∧ (s.reg rs1).toInt + 32768 < (w.toInt + 1) * 65536) ∧
      Writes1 (.fround rd rs1) s rd w) ∧
    (∃ w, (w.toInt * 65536 ≤ (s.reg rs1).toInt ∧ (s.reg rs1).toInt < (w.toInt + 1) * 65536) ∧
      Writes1 (.ffloor rd rs1) s rd w) ∧
    (∃ w, ((w.toInt - 1) * 65536 < (s.reg rs1).toInt ∧ (s.reg rs1).toInt ≤ w.toInt * 65536) ∧
      Writes1 (.fceil rd rs1) s rd w) ∧
    (∃ w, (w.toInt = (s.reg rs1).toInt - (s.reg rs1).toInt / 65536 * 65536 ∧ 0 ≤ w.toInt ∧ w.toInt < 65536) ∧
      Writes1 (.ffrac rd rs1) s rd w)

/-- FCLAMP gives lo below lo, else hi above hi, else the value, by signed comparisons; so it lies in [lo, hi]
whenever lo <= hi (40_fixed_point.md R67). -/
def Obligations.ClampIsSigned : Prop :=
  ∀ (s : State) (rd rs1 rs2 rs3 : Reg),
    ∃ w, Writes1 (.fclamp rd rs1 rs2 rs3) s rd w ∧
      ((s.reg rs1).slt (s.reg rs2) = true → w = s.reg rs2) ∧
      ((s.reg rs1).slt (s.reg rs2) = false → (s.reg rs3).slt (s.reg rs1) = true → w = s.reg rs3) ∧
      ((s.reg rs1).slt (s.reg rs2) = false → (s.reg rs3).slt (s.reg rs1) = false → w = s.reg rs1) ∧
      ((s.reg rs2).sle (s.reg rs3) = true → (s.reg rs2).sle w = true ∧ w.sle (s.reg rs3) = true)

/-- FLERP is `a + (b - a) * t` in FixedPoint operations, each modulo 2^32 (40_fixed_point.md R68). -/
def Obligations.LerpForm : Prop :=
  ∀ (s : State) (rd rs1 rs2 rs3 : Reg),
    Writes1 (.flerp rd rs1 rs2 rs3) s rd
      (s.reg rs1 + mulVia64 (s.reg rs2 - s.reg rs1) (s.reg rs3))

/-- FCMP gives -1, 0 or 1, by a signed comparison; swapping the operands negates it (40_fixed_point.md
R69). -/
def Obligations.CompareIsThreeValued : Prop :=
  ∀ (s : State) (rd rs1 rs2 : Reg),
    ∃ w, Writes1 (.fcmp rd rs1 rs2) s rd w ∧ Writes1 (.fcmp rd rs2 rs1) s rd (-w) ∧
      (w = 0xFFFFFFFF#32 ↔ (s.reg rs1).slt (s.reg rs2) = true) ∧
      (w = 0#32 ↔ s.reg rs1 = s.reg rs2) ∧
      (w = 1#32 ↔ (s.reg rs2).slt (s.reg rs1) = true)

/-- For every pair of integers, the sum of their conversions is the conversion of their sum
(40_fixed_point.md R71). -/
def Obligations.FromintIsAdditive : Prop :=
  ∀ a b : Int, addF (sv (fromIntF a)) (sv (fromIntF b)) = fromIntF (a + b)

/-- Division undoes multiplication within one LSB where the divisor is at least 1.0 in magnitude and the product
fits; it does not for a divisor of one LSB, nor where the product overflows (40_fixed_point.md R72). -/
def Obligations.DivideUndoesMultiply : Prop :=
  (∀ a b : Word, 65536 ≤ b.toInt.natAbs →
    -(2 ^ 31) ≤ a.toInt * b.toInt / 65536 → a.toInt * b.toInt / 65536 < 2 ^ 31 →
    ((divF (sv (mulF (sv a) (sv b))) (sv b)).toInt - a.toInt).natAbs ≤ 1) ∧
  divF (sv (mulF 0x12345 1)) 1 = 0x00010000#32 ∧
  1 < ((divF (sv (mulF 0xC80000 0xC80000)) 0xC80000).toInt - 0xC80000).natAbs

/-! ## Square roots -/

/-- FSQRT gives 0 for a non-positive operand, and else the result of eight Newton steps from the first guess of
43_sqrt.md R114 (R115). -/
def Obligations.FixedRootIsEightNewtonSteps : Prop :=
  ∀ (s : State) (rd rs1 : Reg),
    ∃ w, IsFixRoot (s.reg rs1) w ∧ Writes1 (.fsqrt rd rs1) s rd w

/-- ISQRT gives 0 for n <= 0, and else the result of eight Newton steps from n >> 1 with the integer quotient;
so n = 1 gives 0 (43_sqrt.md R116). The last clause, that every n >= 2 gives a positive result not below the
floor of the exact root, is inferred from those steps; no rule states it. -/
def Obligations.IntegerRootIsEightNewtonSteps : Prop :=
  ∀ (s : State) (rd rs1 : Reg),
    ∃ w, Writes1 (.isqrt rd rs1) s rd w ∧
      ((s.reg rs1).toInt ≤ 1 → w = 0#32) ∧
      (0 < (s.reg rs1).toInt →
        IsNewtonRoot (fun g => Int.tdiv (s.reg rs1).toInt g) ((s.reg rs1).toInt / 2) w.toInt) ∧
      (2 ≤ (s.reg rs1).toInt → 0 < w.toInt ∧ (s.reg rs1).toInt < (w.toInt + 1) * (w.toInt + 1))

/-! ## Angles -/

/-- SIN of the canonical angle, its low 8 bits: the table entry, its mirror, and their negatives, a quarter turn
each (41_angle.md R75, R76). That the negation is modulo 2^32 for every table, entries of 0x80000000 with them,
is the model's choice (log 3). -/
def Obligations.SineQuarterWave : Prop :=
  ∀ (s : State) (rd rs1 : Reg) (a : Nat), a = (s.reg rs1).toNat % 256 →
    (a < 64 → Writes1 (.sin rd rs1) s rd (s.cfg.sinTable.getD a 0)) ∧
    (64 ≤ a → a < 128 → Writes1 (.sin rd rs1) s rd (s.cfg.sinTable.getD (128 - a) 0)) ∧
    (128 ≤ a → a < 192 → Writes1 (.sin rd rs1) s rd (-s.cfg.sinTable.getD (a - 128) 0)) ∧
    (192 ≤ a → Writes1 (.sin rd rs1) s rd (-s.cfg.sinTable.getD (256 - a) 0))

/-- COS writes what the sine is a quarter turn on. TAN writes TAN_SAT where that is 0, and else the FixedPoint
quotient of sine by cosine (41_angle.md R77, R78). -/
def Obligations.CosineAndTangent : Prop :=
  ∀ (s : State) (rd rs1 : Reg) (sin cos : Word),
    sin = sinF s.cfg (s.reg rs1).toInt → cos = sinF s.cfg (s.reg rs1 + 64#32).toInt →
    Writes1 (.cos rd rs1) s rd cos ∧
    (cos = 0#32 → Writes1 (.tan rd rs1) s rd s.cfg.tanSat) ∧
    (cos ≠ 0#32 → ∃ w, IsFixQuot sin cos w ∧ Writes1 (.tan rd rs1) s rd w)

/-- For every legal table and every 32-bit angle: the sine is the negative of the sine half a turn on, the cosine
is the sine a quarter turn on, the sine of 0 is 0, and the sine depends on the low 8 bits alone
(41_angle.md R85). -/
def Obligations.SineLaws : Prop :=
  ∀ (c : Config) (a b : Word), c.legal = true →
    sinF c (sv a) = -sinF c (sv (a + 128#32)) ∧
    cosF c (sv a) = sinF c (sv (a + 64#32)) ∧
    sinF c 0 = 0#32 ∧
    (a.toNat % 256 = b.toNat % 256 → sinF c (sv a) = sinF c (sv b))

/-- Under every choice of the parameters ATAN2 is one total function of its two operand words. Its result is a
canonical angle in [0, 256), for ATAN2_REF with an ATAN_K of magnitude up to 2^21, the default among them,
which keep the octant angle of R80 in 0..32 (41_angle.md R79 properties 1 and 2; what a larger ATAN_K gives
and what another function is, log 2). -/
def Obligations.ArctangentIsCanonical : Prop :=
  ∀ c : Config, ∃ f : Word → Word → Word,
    ((c.atan2 = .ref → -(2 ^ 21) ≤ c.atanK ∧ c.atanK ≤ 2 ^ 21) → ∀ y x, (f y x).toNat < 256) ∧
    ∀ (s : State) (rd rs1 rs2 : Reg), s.cfg = c →
      Writes1 (.atan2 rd rs1 rs2) s rd (f (s.reg rs1) (s.reg rs2))

/-- ATAN2_REF under every ATAN_K: 0 at the origin, and elsewhere the octant angle, a ratio with a quadratic
correction, rounded, and unfolded by the order of the magnitudes and by the signs, where a register holds
that integer; so under every ATAN_K the axes give the exact quadrant angles and the diagonal gives 32 and
160 (41_angle.md R80, and the corner cases of R79). -/
def Obligations.DefaultArctangent : Prop :=
  ∀ (s : State) (rd rs1 rs2 : Reg) (y x : Int), s.cfg.atan2 = .ref →
    y = (s.reg rs1).toInt → x = (s.reg rs2).toInt →
    (x = 0 ∧ y = 0 → Writes1 (.atan2 rd rs1 rs2) s rd 0#32) ∧
    (¬(x = 0 ∧ y = 0) → ∀ r a t u v : Int,
      r = min |x| |y| * 65536 / max |x| |y| →
      a = (32 * r + s.cfg.atanK * r * (65536 - r) / 2 ^ 32 + 32768) / 65536 →
      t = (if |y| ≤ |x| then a else 64 - a) → u = (if x < 0 then 128 - t else t) →
      v = (if y < 0 then (256 - u) % 256 else u) → -(2 ^ 31) ≤ v → v < 2 ^ 31 →
      ∃ w, w.toInt = v ∧ Writes1 (.atan2 rd rs1 rs2) s rd w) ∧
    (y = 0 → 0 < x → Writes1 (.atan2 rd rs1 rs2) s rd 0#32) ∧
    (0 < y → x = 0 → Writes1 (.atan2 rd rs1 rs2) s rd 64#32) ∧
    (y = 0 → x < 0 → Writes1 (.atan2 rd rs1 rs2) s rd 128#32) ∧
    (y < 0 → x = 0 → Writes1 (.atan2 rd rs1 rs2) s rd 192#32) ∧
    (y = x → 0 < x → Writes1 (.atan2 rd rs1 rs2) s rd 32#32) ∧
    (y = x → x < 0 → Writes1 (.atan2 rd rs1 rs2) s rd 160#32)

/-- DEG2ANG floors the product by K_D2A and ANG2DEG divides by it; RAD2ANG floors the quotient by K_A2R and
ANG2RAD multiplies by it; nothing is reduced modulo 256 (41_angle.md R81 to R84). -/
def Obligations.AngleConversions : Prop :=
  ∀ (s : State) (rd rs1 : Reg),
    Writes1 (.deg2ang rd rs1) s rd ((mulVia64 (s.reg rs1) s.cfg.kD2A).sshiftRight 16) ∧
    (∃ w, IsFixQuot (s.reg rs1 <<< 16) s.cfg.kD2A w ∧ Writes1 (.ang2deg rd rs1) s rd w) ∧
    (∃ w, IsFixQuot (s.reg rs1) s.cfg.kA2R w ∧ Writes1 (.rad2ang rd rs1) s rd (w.sshiftRight 16)) ∧
    Writes1 (.ang2rad rd rs1) s rd (mulVia64 (s.reg rs1 <<< 16) s.cfg.kA2R)

/-! ## Random -/

/-- RINT writes `hi mod n`, or 0 for n <= 0; RRANGE writes `lo + hi mod (hi' - lo)`, or lo for an empty range; RBOOL
writes bit 0 of hi; RFIX writes hi: hi being the upper 16 bits of the new seed, which each of them writes
to RNG_SEED (45_random.md R130, R132 to R135). -/
def Obligations.RandomResults : Prop :=
  ∀ (s : State) (rd rs1 rs2 : Reg) (seed : Word) (hi : Int),
    seed = s.cfg.rngA * s.rngSeed + s.cfg.rngC → hi = (seed.toNat / 65536 : Nat) →
    ((s.reg rs1).toInt ≤ 0 → WritesSeed (.rint rd rs1) s rd 0#32 seed) ∧
    (0 < (s.reg rs1).toInt →
      WritesSeed (.rint rd rs1) s rd (BitVec.ofInt 32 (hi % (s.reg rs1).toInt)) seed) ∧
    ((s.reg rs2).toInt ≤ (s.reg rs1).toInt → WritesSeed (.rrange rd rs1 rs2) s rd (s.reg rs1) seed) ∧
    ((s.reg rs1).toInt < (s.reg rs2).toInt →
      WritesSeed (.rrange rd rs1 rs2) s rd
        (BitVec.ofInt 32 ((s.reg rs1).toInt + hi % ((s.reg rs2).toInt - (s.reg rs1).toInt))) seed) ∧
    WritesSeed (.rbool rd) s rd (if seed.getLsbD 16 then 1#32 else 0#32) seed ∧
    WritesSeed (.rfix rd) s rd (seed >>> 16) seed

/-- RINT lies in [0, n) for n > 0, RRANGE in [lo, hi) for lo < hi, RBOOL is 0 or 1, and RFIX lies in [0, 1.0)
(45_random.md R132 to R135). -/
def Obligations.RandomResultsLieInRange : Prop :=
  ∀ (s : State) (rd rs1 rs2 : Reg),
    (0 < (s.reg rs1).toInt → ∃ t, exec (.rint rd rs1) s = .next t ∧
      0 ≤ (t.reg rd).toInt ∧ (t.reg rd).toInt < (s.reg rs1).toInt) ∧
    ((s.reg rs1).toInt < (s.reg rs2).toInt → ∃ t, exec (.rrange rd rs1 rs2) s = .next t ∧
      (s.reg rs1).toInt ≤ (t.reg rd).toInt ∧ (t.reg rd).toInt < (s.reg rs2).toInt) ∧
    (∃ t, exec (.rbool rd) s = .next t ∧ (t.reg rd = 0#32 ∨ t.reg rd = 1#32)) ∧
    (∃ t, exec (.rfix rd) s = .next t ∧ (t.reg rd).toNat < 65536)

/-! ## Vectors -/

/-- VADD, VSUB and VNEG work componentwise modulo 2^32, on the old registers whatever the overlap
(42_vector.md R89 to R92, R97, R98; 30_encoding.md R51). -/
def Obligations.VectorAddSubtractNegate : Prop :=
  ∀ (s : State) (rd a b : Reg),
    (groupFits rd 2 = true → groupFits a 2 = true → groupFits b 2 = true →
      Writes2 (.vadd2 rd a b) s rd ((s.v2 a).x + (s.v2 b).x) ((s.v2 a).y + (s.v2 b).y) ∧
      Writes2 (.vsub2 rd a b) s rd ((s.v2 a).x - (s.v2 b).x) ((s.v2 a).y - (s.v2 b).y) ∧
      Writes2 (.vneg2 rd a) s rd (-(s.v2 a).x) (-(s.v2 a).y)) ∧
    (groupFits rd 3 = true → groupFits a 3 = true → groupFits b 3 = true →
      Writes3 (.vadd3 rd a b) s rd ((s.v3 a).x + (s.v3 b).x) ((s.v3 a).y + (s.v3 b).y)
        ((s.v3 a).z + (s.v3 b).z) ∧
      Writes3 (.vsub3 rd a b) s rd ((s.v3 a).x - (s.v3 b).x) ((s.v3 a).y - (s.v3 b).y)
        ((s.v3 a).z - (s.v3 b).z) ∧
      Writes3 (.vneg3 rd a) s rd (-(s.v3 a).x) (-(s.v3 a).y) (-(s.v3 a).z))

/-- VSCALE multiplies each component by the scalar (42_vector.md R93, R94). -/
def Obligations.VectorScale : Prop :=
  ∀ (s : State) (rd a b : Reg),
    (groupFits rd 2 = true → groupFits a 2 = true →
      Writes2 (.vscale2 rd a b) s rd (mulVia64 (s.v2 a).x (s.reg b)) (mulVia64 (s.v2 a).y (s.reg b))) ∧
    (groupFits rd 3 = true → groupFits a 3 = true →
      Writes3 (.vscale3 rd a b) s rd (mulVia64 (s.v3 a).x (s.reg b)) (mulVia64 (s.v3 a).y (s.reg b))
        (mulVia64 (s.v3 a).z (s.reg b)))

/-- VDIVS divides each component by the scalar, and writes the vector unchanged where the scalar is 0
(42_vector.md R95, R96). -/
def Obligations.VectorDivide : Prop :=
  ∀ (s : State) (rd a b : Reg),
    (groupFits rd 2 = true → groupFits a 2 = true →
      (s.reg b = 0#32 → Writes2 (.vdivs2 rd a b) s rd (s.v2 a).x (s.v2 a).y) ∧
      (s.reg b ≠ 0#32 → ∃ x y, IsFixQuot (s.v2 a).x (s.reg b) x ∧ IsFixQuot (s.v2 a).y (s.reg b) y ∧
        Writes2 (.vdivs2 rd a b) s rd x y)) ∧
    (groupFits rd 3 = true → groupFits a 3 = true →
      (s.reg b = 0#32 → Writes3 (.vdivs3 rd a b) s rd (s.v3 a).x (s.v3 a).y (s.v3 a).z) ∧
      (s.reg b ≠ 0#32 → ∃ x y z, IsFixQuot (s.v3 a).x (s.reg b) x ∧ IsFixQuot (s.v3 a).y (s.reg b) y ∧
        IsFixQuot (s.v3 a).z (s.reg b) z ∧ Writes3 (.vdivs3 rd a b) s rd x y z))

/-- VDOT sums the rounded products modulo 2^32, and VLENSQ is the dot product of a vector with itself
(42_vector.md R99, R100, R104, R105). -/
def Obligations.DotProductAndSquaredLength : Prop :=
  ∀ (s : State) (rd a b : Reg),
    (groupFits a 2 = true → Writes1 (.vlensq2 rd a) s rd (dotVia64 (s.v2 a) (s.v2 a)) ∧
      (groupFits b 2 = true → Writes1 (.vdot2 rd a b) s rd (dotVia64 (s.v2 a) (s.v2 b)))) ∧
    (groupFits a 3 = true → Writes1 (.vlensq3 rd a) s rd (dot3Via64 (s.v3 a) (s.v3 a)) ∧
      (groupFits b 3 = true → Writes1 (.vdot3 rd a b) s rd (dot3Via64 (s.v3 a) (s.v3 b))))

/-- VCROSS3 writes the right-handed cross product, each component the difference of two rounded products modulo
2^32 (42_vector.md R101). -/
def Obligations.CrossProduct : Prop :=
  ∀ (s : State) (rd a b : Reg), groupFits rd 3 = true → groupFits a 3 = true → groupFits b 3 = true →
    Writes3 (.vcross3 rd a b) s rd
      (mulVia64 (s.v3 a).y (s.v3 b).z - mulVia64 (s.v3 a).z (s.v3 b).y)
      (mulVia64 (s.v3 a).z (s.v3 b).x - mulVia64 (s.v3 a).x (s.v3 b).z)
      (mulVia64 (s.v3 a).x (s.v3 b).y - mulVia64 (s.v3 a).y (s.v3 b).x)

/-- The cross product of a vector with itself is the zero vector, and swapping the operands negates it modulo 2^32
(42_vector.md R101 corner cases). -/
def Obligations.CrossProductIsAlternating : Prop :=
  ∀ (s : State) (rd a b : Reg), groupFits rd 3 = true → groupFits a 3 = true → groupFits b 3 = true →
    Writes3 (.vcross3 rd a a) s rd 0#32 0#32 0#32 ∧
    ∃ x y z, Writes3 (.vcross3 rd a b) s rd x y z ∧ Writes3 (.vcross3 rd b a) s rd (-x) (-y) (-z)

/-- VEQ writes 1 where every component is equal bit for bit, and 0 elsewhere (42_vector.md R102, R103). -/
def Obligations.VectorEquality : Prop :=
  ∀ (s : State) (rd a b : Reg),
    (groupFits a 2 = true → groupFits b 2 = true →
      ((s.v2 a).x = (s.v2 b).x ∧ (s.v2 a).y = (s.v2 b).y → Writes1 (.veq2 rd a b) s rd 1#32) ∧
      (¬((s.v2 a).x = (s.v2 b).x ∧ (s.v2 a).y = (s.v2 b).y) → Writes1 (.veq2 rd a b) s rd 0#32)) ∧
    (groupFits a 3 = true → groupFits b 3 = true →
      ((s.v3 a).x = (s.v3 b).x ∧ (s.v3 a).y = (s.v3 b).y ∧ (s.v3 a).z = (s.v3 b).z →
        Writes1 (.veq3 rd a b) s rd 1#32) ∧
      (¬((s.v3 a).x = (s.v3 b).x ∧ (s.v3 a).y = (s.v3 b).y ∧ (s.v3 a).z = (s.v3 b).z) →
        Writes1 (.veq3 rd a b) s rd 0#32))

/-- VLEN writes the FixedPoint root of the squared length, and VDIST that of the difference of its operands
(42_vector.md R106, R107, R110, R111). -/
def Obligations.LengthAndDistance : Prop :=
  ∀ (s : State) (rd a b : Reg),
    (groupFits a 2 = true → (∃ w, IsFixRoot (dotVia64 (s.v2 a) (s.v2 a)) w ∧ Writes1 (.vlen2 rd a) s rd w) ∧
      (groupFits b 2 = true → ∀ d : V2,
        d = ⟨(s.v2 a).x - (s.v2 b).x, (s.v2 a).y - (s.v2 b).y⟩ →
        ∃ w, IsFixRoot (dotVia64 d d) w ∧ Writes1 (.vdist2 rd a b) s rd w)) ∧
    (groupFits a 3 = true → (∃ w, IsFixRoot (dot3Via64 (s.v3 a) (s.v3 a)) w ∧ Writes1 (.vlen3 rd a) s rd w) ∧
      (groupFits b 3 = true → ∀ d : V3,
        d = ⟨(s.v3 a).x - (s.v3 b).x, (s.v3 a).y - (s.v3 b).y, (s.v3 a).z - (s.v3 b).z⟩ →
        ∃ w, IsFixRoot (dot3Via64 d d) w ∧ Writes1 (.vdist3 rd a b) s rd w))

/-- VNORM divides each component by the computed length, and writes the vector unchanged where that length is 0
(42_vector.md R108, R109). -/
def Obligations.Normalize : Prop :=
  ∀ (s : State) (rd a : Reg),
    (groupFits rd 2 = true → groupFits a 2 = true →
      ∃ n, IsNorm2 (s.v2 a) n ∧ Writes2 (.vnorm2 rd a) s rd n.x n.y) ∧
    (groupFits rd 3 = true → groupFits a 3 = true →
      ∃ n, IsNorm3 (s.v3 a) n ∧ Writes3 (.vnorm3 rd a) s rd n.x n.y n.z)

/-! ## Projection -/

/-- PROJ: the depth of the relative position along the normalized forward vector; the invisible result of four
zeros where it lies outside [near, far] or the screen point lies outside the widened viewport; else the screen
point, the scale near / depth and 1 (44_projection.md R120, R121, R122). -/
def Obligations.CameraProjection : Prop :=
  ∀ (s : State) (rd rs1 : Reg), groupFits rd 4 = true → groupFits rs1 3 = true →
    ∃ (fwd : V3) (scale : Word), ∀ (rel : V3) (depth : Word),
      rel = ⟨(s.v3 rs1).x - s.camPX, (s.v3 rs1).y - s.camPY, (s.v3 rs1).z - s.camPZ⟩ →
      depth = dot3Via64 rel fwd →
      IsNorm3 ⟨s.camTX - s.camPX, s.camTY - s.camPY, s.camTZ - s.camPZ⟩ fwd ∧
      IsFixQuot s.camNear depth scale ∧
      (depth.slt s.camNear = true ∨ s.camFar.slt depth = true →
        Writes4 (.proj rd rs1) s rd 0#32 0#32 0#32 0#32) ∧
      (s.camNear.sle depth = true → depth.sle s.camFar = true →
        (onScreen s (screenPoint s rel.x rel.y scale) →
          Writes4 (.proj rd rs1) s rd (BitVec.ofInt 32 (screenPoint s rel.x rel.y scale).1)
            (BitVec.ofInt 32 (screenPoint s rel.x rel.y scale).2) scale 1#32) ∧
        (¬onScreen s (screenPoint s rel.x rel.y scale) →
          Writes4 (.proj rd rs1) s rd 0#32 0#32 0#32 0#32))

/-- PROJS: four zeros behind the viewer; else the depth base + z, raised to DEPTH_MIN where it is below, the scale
base / depth, and the screen point with 1 where it lies in the widened viewport, four zeros elsewhere
(44_projection.md R120, R121, R123). -/
def Obligations.SimpleProjection : Prop :=
  ∀ (s : State) (rd rs1 rs2 : Reg) (depth : Word), groupFits rd 4 = true → groupFits rs1 3 = true →
    depth = (if (s.reg rs2 + (s.v3 rs1).z).slt s.cfg.depthMin then s.cfg.depthMin
      else s.reg rs2 + (s.v3 rs1).z) →
    ((s.v3 rs1).z.slt 0#32 = true → Writes4 (.projs rd rs1 rs2) s rd 0#32 0#32 0#32 0#32) ∧
    ((s.v3 rs1).z.slt 0#32 = false →
      ∃ scale, IsFixQuot (s.reg rs2) depth scale ∧
        (onScreen s (screenPoint s (s.v3 rs1).x (s.v3 rs1).y scale) →
          Writes4 (.projs rd rs1 rs2) s rd
            (BitVec.ofInt 32 (screenPoint s (s.v3 rs1).x (s.v3 rs1).y scale).1)
            (BitVec.ofInt 32 (screenPoint s (s.v3 rs1).x (s.v3 rs1).y scale).2) scale 1#32) ∧
        (¬onScreen s (screenPoint s (s.v3 rs1).x (s.v3 rs1).y scale) →
          Writes4 (.projs rd rs1 rs2) s rd 0#32 0#32 0#32 0#32))

/-- After PROJ and PROJS the visible word is 1 or 0; where it is 0 all four words are 0, and where it is 1 the
coordinates lie within 32 pixels of the screen (44_projection.md R120, R121). -/
def Obligations.ProjectionResultIsZeroOrOnScreen : Prop :=
  ∀ (i : Instr) (s : State) (rd rs1 rs2 : Reg), groupFits rd 4 = true → groupFits rs1 3 = true →
    i = .proj rd rs1 ∨ i = .projs rd rs1 rs2 →
    ∃ t, exec i s = .next t ∧
      ((t.reg rd = 0#32 ∧ t.reg (groupReg rd 1) = 0#32 ∧ t.reg (groupReg rd 2) = 0#32 ∧
          t.reg (groupReg rd 3) = 0#32) ∨
        (t.reg (groupReg rd 3) = 1#32 ∧
          onScreen s ((t.reg rd).toInt, (t.reg (groupReg rd 1)).toInt)))

/-- SPRSCALE: the base scale unchanged for a distance of 0 or less; else the base scale times the FixedPoint ratio
of the distances, floored and clamped to [1, 512] (44_projection.md R124). -/
def Obligations.SpriteScale : Prop :=
  ∀ (s : State) (rd rs1 rs2 rs3 : Reg),
    ((s.reg rs1).toInt ≤ 0 → Writes1 (.sprscale rd rs1 rs2 rs3) s rd (s.reg rs3)) ∧
    (0 < (s.reg rs1).toInt →
      ∃ ratio w, IsFixQuot (s.reg rs2) (s.reg rs1) ratio ∧ Writes1 (.sprscale rd rs1 rs2 rs3) s rd w ∧
        w.toInt = max 1 (min 512 ((s.reg rs3).toInt * ratio.toInt / 65536)))

/-- CMPDEPTH: -1 where A is farther, 1 where it is nearer, 0 on a tie; it negates when the operands are swapped,
and a vector ties with itself (44_projection.md R125, R126). -/
def Obligations.DepthOrderIsAntisymmetric : Prop :=
  ∀ (s : State) (rd a b : Reg), groupFits a 3 = true → groupFits b 3 = true →
    ∃ w, Writes1 (.cmpdepth rd a b) s rd w ∧ Writes1 (.cmpdepth rd b a) s rd (-w) ∧
      Writes1 (.cmpdepth rd a a) s rd 0#32 ∧
      ((s.v3 b).z.slt (s.v3 a).z = true → w = 0xFFFFFFFF#32) ∧
      ((s.v3 a).z.slt (s.v3 b).z = true → w = 1#32) ∧
      ((s.v3 a).z = (s.v3 b).z → w = 0#32)
end

