-- ==== Sys2Proof/Laws/Arith.lean ====
section
/-! SUPPORT. The FixedPoint helpers as word arithmetic: what each one answers, said once. -/

namespace Sys2Proof.Machine

open Sys2Proof.Safety

@[simp] theorem wrap32_sv (w : Word) : wrap32 (sv w) = w := BitVec.ofInt_toInt

theorem sv_wrap32 (v : Int) : sv (wrap32 v) = v.bmod (2 ^ 32) := by
  simp [sv, wrap32, BitVec.toInt_ofInt]

theorem sar_eq (v : Int) (n : Nat) : sar v n = v / ((2 ^ n : Nat) : Int) := Int.shiftRight_eq_div_pow v n

theorem sv_eq_zero_iff (w : Word) : sv w = 0 ↔ w = 0#32 := by
  constructor
  · intro h; rw [← wrap32_sv w, h]; rfl
  · rintro rfl; rfl

theorem addF_sv (a b : Word) : addF (sv a) (sv b) = a + b := by
  simp [addF, wrap32, sv, BitVec.ofInt_add, BitVec.ofInt_toInt]

theorem subF_sv (a b : Word) : subF (sv a) (sv b) = a - b := by
  simp [subF, wrap32, sv, Int.sub_eq_add_neg, BitVec.ofInt_add, BitVec.ofInt_neg, BitVec.ofInt_toInt,
    BitVec.sub_eq_add_neg]

theorem fromIntF_sv (a : Word) : fromIntF (sv a) = a <<< 16 := by
  simp only [fromIntF, wrap32, shl, sv, BitVec.ofInt_mul, BitVec.ofInt_toInt]
  rw [BitVec.shiftLeft_eq_mul_twoPow]
  rfl

/-- The product of two words fits in 64 bits (40_fixed_point.md R57). -/
theorem toInt_mul_signExtend (a b : Word) :
    (a.signExtend 64 * b.signExtend 64).toInt = a.toInt * b.toInt := by
  have ha := BitVec.toInt_lt (x := a); have ha' := BitVec.le_toInt a
  have hb := BitVec.toInt_lt (x := b); have hb' := BitVec.le_toInt b
  rw [BitVec.toInt_mul, BitVec.toInt_signExtend_of_le (by decide), BitVec.toInt_signExtend_of_le (by decide)]
  norm_num at ha ha' hb hb' ⊢
  apply Int.bmod_eq_of_le_mul_two <;> push_cast <;> nlinarith

/-- Narrowing a 64-bit word is narrowing its signed value. -/
theorem ofInt_toInt_narrow (x : BitVec 64) : BitVec.ofInt 32 x.toInt = x.setWidth 32 := by
  apply BitVec.eq_of_toNat_eq
  rw [BitVec.toNat_ofInt, BitVec.toNat_setWidth, BitVec.toInt_eq_toNat_cond]
  have := x.isLt
  split <;> omega

theorem mulF_sv (a b : Word) : mulF (sv a) (sv b) = mulVia64 a b := by
  have h : sar (a.toInt * b.toInt) 16 =
      ((a.signExtend 64 * b.signExtend 64).sshiftRight 16).toInt := by
    rw [BitVec.toInt_sshiftRight, toInt_mul_signExtend]; rfl
  simp only [mulF, mulVia64, sv, h, wrap32, ofInt_toInt_narrow]

/-- `Int.tdiv` is the quotient truncated toward zero (00_scope.md R12). -/
theorem tdiv_isTruncQuot (n d : Int) (h : d ≠ 0) : IsTruncQuot n d (tdiv n d) := by
  refine ⟨n.tmod d, ?_, ?_, ?_, ?_⟩
  · rw [tdiv, mul_comm]; exact (Int.mul_tdiv_add_tmod n d).symm
  · rw [Int.natAbs_tmod]; exact Nat.mod_lt _ (Int.natAbs_pos.mpr h)
  · exact fun hn => Int.tmod_nonneg d hn
  · intro hn
    have := Int.tmod_nonneg d (a := -n) (by omega)
    rw [Int.neg_tmod] at this; omega

theorem divF_isFixQuot (a b : Word) : IsFixQuot a b (divF (sv a) (sv b)) := by
  unfold IsFixQuot divF
  by_cases hb : b = 0#32
  · simp [hb, sv]
  · have hb' : sv b ≠ 0 := fun h => hb ((sv_eq_zero_iff b).mp h)
    rw [if_neg hb, if_neg hb']
    exact ⟨_, tdiv_isTruncQuot _ _ hb', rfl⟩

/-- Eight Newton steps are nine guesses, each half the sum of the one before and its quotient
(43_sqrt.md R113, R119). -/
theorem newtonSteps_isNewtonRoot (quot : Int → Int) (g0 : Int) :
    IsNewtonRoot quot g0 (newtonSteps quot 8 g0) := by
  have key : ∀ n g0, ∃ g : Nat → Int, g 0 = g0 ∧ g n = newtonSteps quot n g0 ∧
      ∀ k, k < n → g (k + 1) = if g k = 0 then 0 else (g k + quot (g k)) / 2 := by
    intro n
    induction n with
    | zero => exact fun g0 => ⟨fun _ => g0, rfl, rfl, fun k hk => absurd hk (Nat.not_lt_zero k)⟩
    | succ n ih =>
      intro g0
      by_cases h0 : g0 = 0
      · subst h0
        refine ⟨fun _ => 0, rfl, by simp [newtonSteps], fun k _ => by simp⟩
      · obtain ⟨g, hg0, hgn, hgs⟩ := ih ((g0 + quot g0) / 2)
        refine ⟨fun k => Nat.casesOn k g0 g, rfl, ?_, ?_⟩
        · simpa [newtonSteps, h0, sar_eq] using hgn
        · intro k hk
          cases k with
          | zero => simp [hg0, h0]
          | succ k => exact hgs k (by omega)
  exact key 8 g0

theorem fsqrtF_isFixRoot (x : Word) : IsFixRoot x (fsqrtF (sv x)) := by
  unfold IsFixRoot fsqrtF
  by_cases h : x.toInt ≤ 0
  · simp [sv, h]
  · rw [if_neg h, if_neg (show ¬ sv x ≤ 0 from h)]
    refine ⟨_, ?_, rfl⟩
    have := newtonSteps_isNewtonRoot (fun g => sv (divF (sv x) g))
      (if sv x < 65536 then sv x else sar (sv x) 1)
    simpa [sar_eq, sv, sqrtIters] using this

end Sys2Proof.Machine
end

