-- ==== Sys2Proof/Laws/Angle.lean ====
section
/-! SUPPORT. The arctangent helpers: what each one answers, said once. -/

namespace Sys2Proof.Machine

/-- The octant angle lies in 0..32 while ATAN_K does not outweigh the linear term (41_angle.md R80). -/
theorem octantAngle_range (k mn mx : Int) (hk : -(2 ^ 21) ≤ k) (hk' : k ≤ 2 ^ 21) (h0 : 0 ≤ mn)
    (h1 : mn ≤ mx) (h2 : 0 < mx) : 0 ≤ octantAngle k mn mx ∧ octantAngle k mn mx ≤ 32 := by
  unfold octantAngle
  simp only [sar_eq, shl]
  have r0 : 0 ≤ mn * ((2 ^ 16 : Nat) : Int) / mx := Int.ediv_nonneg (by positivity) h2.le
  have r1 : mn * ((2 ^ 16 : Nat) : Int) / mx ≤ 65536 := by
    have : mn * ((2 ^ 16 : Nat) : Int) / mx < 65537 := by
      rw [Int.ediv_lt_iff_lt_mul h2]; push_cast; nlinarith
    omega
  generalize mn * ((2 ^ 16 : Nat) : Int) / mx = r at *
  have hw : 0 ≤ r * (65536 - r) := mul_nonneg r0 (by omega)
  have hl : r * (65536 - r) ≤ 65536 * r := by nlinarith
  have hr : r * (65536 - r) ≤ 65536 * (65536 - r) := by nlinarith
  have up : k * r * (65536 - r) ≤ 2 ^ 21 * (r * (65536 - r)) := by
    rw [mul_assoc]; exact mul_le_mul_of_nonneg_right hk' hw
  have lo : -(2 ^ 21) * (r * (65536 - r)) ≤ k * r * (65536 - r) := by
    rw [mul_assoc]; exact mul_le_mul_of_nonneg_right hk hw
  generalize k * r * (65536 - r) = p at *
  norm_num at *
  constructor <;> omega

/-- ATAN2_REF on two operand words, under the constant ATAN_K of the configuration (41_angle.md R80). -/
theorem atan2F_ref (c : Config) (y x : Word) (h : c.atan2 = .ref) :
    atan2F c y x = wrap32 (atan2Ref c.atanK (sv y) (sv x)) := by
  simp only [atan2F, h]

end Sys2Proof.Machine
end

