-- ==== Sys2Proof/Laws/PerInstr.lean ====
section
/-! SUPPORT. Facts about every command as syntax, one lemma per constructor of Instr. -/

namespace Sys2Proof.Laws

/-- The decoder's group check, asked of a command, is its well-formedness (30_encoding.md R50 check 4). -/
def GroupCheck.Statement (i : Instr) : Prop := i.groupsFit = i.wellFormed

/-- A command is rebuilt from its opcode and its fields, its opcode has operand classes, and the fields
its opcode does not use are 0 (30_encoding.md R50 check 3, R52). -/
def FieldsRebuild.Statement (i : Instr) : Prop :=
  buildInstr i.opcode i.fields = some i ∧
    ∃ c, opcodeClasses i.opcode = some c ∧ c.unusedOk i.fields = true

theorem rangeOk_unused : FieldClass.unused.rangeOk 0 = true := rfl

theorem rangeOk_s (r : Reg) : FieldClass.s.rangeOk r = true :=
  decide_eq_true (show r.val + 1 ≤ 16 from r.isLt)

theorem rangeOk_d1 (r : Reg) : FieldClass.d1.rangeOk r = true :=
  decide_eq_true (show r.val + 1 ≤ 16 from r.isLt)

theorem rangeOk_v2 (r : Reg) : FieldClass.v2.rangeOk r = groupFits r 2 := rfl

theorem rangeOk_v3 (r : Reg) : FieldClass.v3.rangeOk r = groupFits r 3 := rfl

theorem rangeOk_d2 (r : Reg) : FieldClass.d2.rangeOk r = groupFits r 2 := rfl

theorem rangeOk_d3 (r : Reg) : FieldClass.d3.rangeOk r = groupFits r 3 := rfl

theorem rangeOk_d4 (r : Reg) : FieldClass.d4.rangeOk r = groupFits r 4 := rfl

theorem GroupCheck.fromint (rd rs1 : Reg) : GroupCheck.Statement (.fromint rd rs1) := by
  show Classes.rangeOk ⟨.d1, .s, .unused, .unused⟩ ⟨rd, rs1, 0, 0⟩ = (true)
  simp only [Classes.rangeOk, rangeOk_d1, rangeOk_s, rangeOk_unused, Bool.and_true]
theorem GroupCheck.fadd (rd rs1 rs2 : Reg) : GroupCheck.Statement (.fadd rd rs1 rs2) := by
  show Classes.rangeOk ⟨.d1, .s, .s, .unused⟩ ⟨rd, rs1, rs2, 0⟩ = (true)
  simp only [Classes.rangeOk, rangeOk_d1, rangeOk_s, rangeOk_unused, Bool.and_true]
theorem GroupCheck.fsub (rd rs1 rs2 : Reg) : GroupCheck.Statement (.fsub rd rs1 rs2) := by
  show Classes.rangeOk ⟨.d1, .s, .s, .unused⟩ ⟨rd, rs1, rs2, 0⟩ = (true)
  simp only [Classes.rangeOk, rangeOk_d1, rangeOk_s, rangeOk_unused, Bool.and_true]
theorem GroupCheck.fmul (rd rs1 rs2 : Reg) : GroupCheck.Statement (.fmul rd rs1 rs2) := by
  show Classes.rangeOk ⟨.d1, .s, .s, .unused⟩ ⟨rd, rs1, rs2, 0⟩ = (true)
  simp only [Classes.rangeOk, rangeOk_d1, rangeOk_s, rangeOk_unused, Bool.and_true]
theorem GroupCheck.fdiv (rd rs1 rs2 : Reg) : GroupCheck.Statement (.fdiv rd rs1 rs2) := by
  show Classes.rangeOk ⟨.d1, .s, .s, .unused⟩ ⟨rd, rs1, rs2, 0⟩ = (true)
  simp only [Classes.rangeOk, rangeOk_d1, rangeOk_s, rangeOk_unused, Bool.and_true]
theorem GroupCheck.fround (rd rs1 : Reg) : GroupCheck.Statement (.fround rd rs1) := by
  show Classes.rangeOk ⟨.d1, .s, .unused, .unused⟩ ⟨rd, rs1, 0, 0⟩ = (true)
  simp only [Classes.rangeOk, rangeOk_d1, rangeOk_s, rangeOk_unused, Bool.and_true]
theorem GroupCheck.ffloor (rd rs1 : Reg) : GroupCheck.Statement (.ffloor rd rs1) := by
  show Classes.rangeOk ⟨.d1, .s, .unused, .unused⟩ ⟨rd, rs1, 0, 0⟩ = (true)
  simp only [Classes.rangeOk, rangeOk_d1, rangeOk_s, rangeOk_unused, Bool.and_true]
theorem GroupCheck.fceil (rd rs1 : Reg) : GroupCheck.Statement (.fceil rd rs1) := by
  show Classes.rangeOk ⟨.d1, .s, .unused, .unused⟩ ⟨rd, rs1, 0, 0⟩ = (true)
  simp only [Classes.rangeOk, rangeOk_d1, rangeOk_s, rangeOk_unused, Bool.and_true]
theorem GroupCheck.ffrac (rd rs1 : Reg) : GroupCheck.Statement (.ffrac rd rs1) := by
  show Classes.rangeOk ⟨.d1, .s, .unused, .unused⟩ ⟨rd, rs1, 0, 0⟩ = (true)
  simp only [Classes.rangeOk, rangeOk_d1, rangeOk_s, rangeOk_unused, Bool.and_true]
theorem GroupCheck.fclamp (rd rs1 rs2 rs3 : Reg) : GroupCheck.Statement (.fclamp rd rs1 rs2 rs3) := by
  show Classes.rangeOk ⟨.d1, .s, .s, .s⟩ ⟨rd, rs1, rs2, rs3⟩ = (true)
  simp only [Classes.rangeOk, rangeOk_d1, rangeOk_s, Bool.and_true]
theorem GroupCheck.flerp (rd rs1 rs2 rs3 : Reg) : GroupCheck.Statement (.flerp rd rs1 rs2 rs3) := by
  show Classes.rangeOk ⟨.d1, .s, .s, .s⟩ ⟨rd, rs1, rs2, rs3⟩ = (true)
  simp only [Classes.rangeOk, rangeOk_d1, rangeOk_s, Bool.and_true]
theorem GroupCheck.fcmp (rd rs1 rs2 : Reg) : GroupCheck.Statement (.fcmp rd rs1 rs2) := by
  show Classes.rangeOk ⟨.d1, .s, .s, .unused⟩ ⟨rd, rs1, rs2, 0⟩ = (true)
  simp only [Classes.rangeOk, rangeOk_d1, rangeOk_s, rangeOk_unused, Bool.and_true]
theorem GroupCheck.fsqrt (rd rs1 : Reg) : GroupCheck.Statement (.fsqrt rd rs1) := by
  show Classes.rangeOk ⟨.d1, .s, .unused, .unused⟩ ⟨rd, rs1, 0, 0⟩ = (true)
  simp only [Classes.rangeOk, rangeOk_d1, rangeOk_s, rangeOk_unused, Bool.and_true]
theorem GroupCheck.isqrt (rd rs1 : Reg) : GroupCheck.Statement (.isqrt rd rs1) := by
  show Classes.rangeOk ⟨.d1, .s, .unused, .unused⟩ ⟨rd, rs1, 0, 0⟩ = (true)
  simp only [Classes.rangeOk, rangeOk_d1, rangeOk_s, rangeOk_unused, Bool.and_true]
theorem GroupCheck.sin (rd rs1 : Reg) : GroupCheck.Statement (.sin rd rs1) := by
  show Classes.rangeOk ⟨.d1, .s, .unused, .unused⟩ ⟨rd, rs1, 0, 0⟩ = (true)
  simp only [Classes.rangeOk, rangeOk_d1, rangeOk_s, rangeOk_unused, Bool.and_true]
theorem GroupCheck.cos (rd rs1 : Reg) : GroupCheck.Statement (.cos rd rs1) := by
  show Classes.rangeOk ⟨.d1, .s, .unused, .unused⟩ ⟨rd, rs1, 0, 0⟩ = (true)
  simp only [Classes.rangeOk, rangeOk_d1, rangeOk_s, rangeOk_unused, Bool.and_true]
theorem GroupCheck.tan (rd rs1 : Reg) : GroupCheck.Statement (.tan rd rs1) := by
  show Classes.rangeOk ⟨.d1, .s, .unused, .unused⟩ ⟨rd, rs1, 0, 0⟩ = (true)
  simp only [Classes.rangeOk, rangeOk_d1, rangeOk_s, rangeOk_unused, Bool.and_true]
theorem GroupCheck.atan2 (rd rs1 rs2 : Reg) : GroupCheck.Statement (.atan2 rd rs1 rs2) := by
  show Classes.rangeOk ⟨.d1, .s, .s, .unused⟩ ⟨rd, rs1, rs2, 0⟩ = (true)
  simp only [Classes.rangeOk, rangeOk_d1, rangeOk_s, rangeOk_unused, Bool.and_true]
theorem GroupCheck.deg2ang (rd rs1 : Reg) : GroupCheck.Statement (.deg2ang rd rs1) := by
  show Classes.rangeOk ⟨.d1, .s, .unused, .unused⟩ ⟨rd, rs1, 0, 0⟩ = (true)
  simp only [Classes.rangeOk, rangeOk_d1, rangeOk_s, rangeOk_unused, Bool.and_true]
theorem GroupCheck.ang2deg (rd rs1 : Reg) : GroupCheck.Statement (.ang2deg rd rs1) := by
  show Classes.rangeOk ⟨.d1, .s, .unused, .unused⟩ ⟨rd, rs1, 0, 0⟩ = (true)
  simp only [Classes.rangeOk, rangeOk_d1, rangeOk_s, rangeOk_unused, Bool.and_true]
theorem GroupCheck.rad2ang (rd rs1 : Reg) : GroupCheck.Statement (.rad2ang rd rs1) := by
  show Classes.rangeOk ⟨.d1, .s, .unused, .unused⟩ ⟨rd, rs1, 0, 0⟩ = (true)
  simp only [Classes.rangeOk, rangeOk_d1, rangeOk_s, rangeOk_unused, Bool.and_true]
theorem GroupCheck.ang2rad (rd rs1 : Reg) : GroupCheck.Statement (.ang2rad rd rs1) := by
  show Classes.rangeOk ⟨.d1, .s, .unused, .unused⟩ ⟨rd, rs1, 0, 0⟩ = (true)
  simp only [Classes.rangeOk, rangeOk_d1, rangeOk_s, rangeOk_unused, Bool.and_true]
theorem GroupCheck.rint (rd rs1 : Reg) : GroupCheck.Statement (.rint rd rs1) := by
  show Classes.rangeOk ⟨.d1, .s, .unused, .unused⟩ ⟨rd, rs1, 0, 0⟩ = (true)
  simp only [Classes.rangeOk, rangeOk_d1, rangeOk_s, rangeOk_unused, Bool.and_true]
theorem GroupCheck.rrange (rd rs1 rs2 : Reg) : GroupCheck.Statement (.rrange rd rs1 rs2) := by
  show Classes.rangeOk ⟨.d1, .s, .s, .unused⟩ ⟨rd, rs1, rs2, 0⟩ = (true)
  simp only [Classes.rangeOk, rangeOk_d1, rangeOk_s, rangeOk_unused, Bool.and_true]
theorem GroupCheck.rbool (rd : Reg) : GroupCheck.Statement (.rbool rd) := by
  show Classes.rangeOk ⟨.d1, .unused, .unused, .unused⟩ ⟨rd, 0, 0, 0⟩ = (true)
  simp only [Classes.rangeOk, rangeOk_d1, rangeOk_unused, Bool.and_true]
theorem GroupCheck.rfix (rd : Reg) : GroupCheck.Statement (.rfix rd) := by
  show Classes.rangeOk ⟨.d1, .unused, .unused, .unused⟩ ⟨rd, 0, 0, 0⟩ = (true)
  simp only [Classes.rangeOk, rangeOk_d1, rangeOk_unused, Bool.and_true]
theorem GroupCheck.vadd2 (rd rs1 rs2 : Reg) : GroupCheck.Statement (.vadd2 rd rs1 rs2) := by
  show Classes.rangeOk ⟨.d2, .v2, .v2, .unused⟩ ⟨rd, rs1, rs2, 0⟩ = (groupFits rd 2 && groupFits rs1 2 && groupFits rs2 2)
  simp only [Classes.rangeOk, rangeOk_d2, rangeOk_unused, rangeOk_v2, Bool.and_true]
theorem GroupCheck.vadd3 (rd rs1 rs2 : Reg) : GroupCheck.Statement (.vadd3 rd rs1 rs2) := by
  show Classes.rangeOk ⟨.d3, .v3, .v3, .unused⟩ ⟨rd, rs1, rs2, 0⟩ = (groupFits rd 3 && groupFits rs1 3 && groupFits rs2 3)
  simp only [Classes.rangeOk, rangeOk_d3, rangeOk_unused, rangeOk_v3, Bool.and_true]
theorem GroupCheck.vsub2 (rd rs1 rs2 : Reg) : GroupCheck.Statement (.vsub2 rd rs1 rs2) := by
  show Classes.rangeOk ⟨.d2, .v2, .v2, .unused⟩ ⟨rd, rs1, rs2, 0⟩ = (groupFits rd 2 && groupFits rs1 2 && groupFits rs2 2)
  simp only [Classes.rangeOk, rangeOk_d2, rangeOk_unused, rangeOk_v2, Bool.and_true]
theorem GroupCheck.vsub3 (rd rs1 rs2 : Reg) : GroupCheck.Statement (.vsub3 rd rs1 rs2) := by
  show Classes.rangeOk ⟨.d3, .v3, .v3, .unused⟩ ⟨rd, rs1, rs2, 0⟩ = (groupFits rd 3 && groupFits rs1 3 && groupFits rs2 3)
  simp only [Classes.rangeOk, rangeOk_d3, rangeOk_unused, rangeOk_v3, Bool.and_true]
theorem GroupCheck.vscale2 (rd rs1 rs2 : Reg) : GroupCheck.Statement (.vscale2 rd rs1 rs2) := by
  show Classes.rangeOk ⟨.d2, .v2, .s, .unused⟩ ⟨rd, rs1, rs2, 0⟩ = (groupFits rd 2 && groupFits rs1 2)
  simp only [Classes.rangeOk, rangeOk_d2, rangeOk_s, rangeOk_unused, rangeOk_v2, Bool.and_true]
theorem GroupCheck.vscale3 (rd rs1 rs2 : Reg) : GroupCheck.Statement (.vscale3 rd rs1 rs2) := by
  show Classes.rangeOk ⟨.d3, .v3, .s, .unused⟩ ⟨rd, rs1, rs2, 0⟩ = (groupFits rd 3 && groupFits rs1 3)
  simp only [Classes.rangeOk, rangeOk_d3, rangeOk_s, rangeOk_unused, rangeOk_v3, Bool.and_true]
theorem GroupCheck.vdivs2 (rd rs1 rs2 : Reg) : GroupCheck.Statement (.vdivs2 rd rs1 rs2) := by
  show Classes.rangeOk ⟨.d2, .v2, .s, .unused⟩ ⟨rd, rs1, rs2, 0⟩ = (groupFits rd 2 && groupFits rs1 2)
  simp only [Classes.rangeOk, rangeOk_d2, rangeOk_s, rangeOk_unused, rangeOk_v2, Bool.and_true]
theorem GroupCheck.vdivs3 (rd rs1 rs2 : Reg) : GroupCheck.Statement (.vdivs3 rd rs1 rs2) := by
  show Classes.rangeOk ⟨.d3, .v3, .s, .unused⟩ ⟨rd, rs1, rs2, 0⟩ = (groupFits rd 3 && groupFits rs1 3)
  simp only [Classes.rangeOk, rangeOk_d3, rangeOk_s, rangeOk_unused, rangeOk_v3, Bool.and_true]
theorem GroupCheck.vneg2 (rd rs1 : Reg) : GroupCheck.Statement (.vneg2 rd rs1) := by
  show Classes.rangeOk ⟨.d2, .v2, .unused, .unused⟩ ⟨rd, rs1, 0, 0⟩ = (groupFits rd 2 && groupFits rs1 2)
  simp only [Classes.rangeOk, rangeOk_d2, rangeOk_unused, rangeOk_v2, Bool.and_true]
theorem GroupCheck.vneg3 (rd rs1 : Reg) : GroupCheck.Statement (.vneg3 rd rs1) := by
  show Classes.rangeOk ⟨.d3, .v3, .unused, .unused⟩ ⟨rd, rs1, 0, 0⟩ = (groupFits rd 3 && groupFits rs1 3)
  simp only [Classes.rangeOk, rangeOk_d3, rangeOk_unused, rangeOk_v3, Bool.and_true]
theorem GroupCheck.vdot2 (rd rs1 rs2 : Reg) : GroupCheck.Statement (.vdot2 rd rs1 rs2) := by
  show Classes.rangeOk ⟨.d1, .v2, .v2, .unused⟩ ⟨rd, rs1, rs2, 0⟩ = (groupFits rs1 2 && groupFits rs2 2)
  simp only [Classes.rangeOk, rangeOk_d1, rangeOk_unused, rangeOk_v2, Bool.and_true, Bool.true_and]
theorem GroupCheck.vdot3 (rd rs1 rs2 : Reg) : GroupCheck.Statement (.vdot3 rd rs1 rs2) := by
  show Classes.rangeOk ⟨.d1, .v3, .v3, .unused⟩ ⟨rd, rs1, rs2, 0⟩ = (groupFits rs1 3 && groupFits rs2 3)
  simp only [Classes.rangeOk, rangeOk_d1, rangeOk_unused, rangeOk_v3, Bool.and_true, Bool.true_and]
theorem GroupCheck.vcross3 (rd rs1 rs2 : Reg) : GroupCheck.Statement (.vcross3 rd rs1 rs2) := by
  show Classes.rangeOk ⟨.d3, .v3, .v3, .unused⟩ ⟨rd, rs1, rs2, 0⟩ = (groupFits rd 3 && groupFits rs1 3 && groupFits rs2 3)
  simp only [Classes.rangeOk, rangeOk_d3, rangeOk_unused, rangeOk_v3, Bool.and_true]
theorem GroupCheck.veq2 (rd rs1 rs2 : Reg) : GroupCheck.Statement (.veq2 rd rs1 rs2) := by
  show Classes.rangeOk ⟨.d1, .v2, .v2, .unused⟩ ⟨rd, rs1, rs2, 0⟩ = (groupFits rs1 2 && groupFits rs2 2)
  simp only [Classes.rangeOk, rangeOk_d1, rangeOk_unused, rangeOk_v2, Bool.and_true, Bool.true_and]
theorem GroupCheck.veq3 (rd rs1 rs2 : Reg) : GroupCheck.Statement (.veq3 rd rs1 rs2) := by
  show Classes.rangeOk ⟨.d1, .v3, .v3, .unused⟩ ⟨rd, rs1, rs2, 0⟩ = (groupFits rs1 3 && groupFits rs2 3)
  simp only [Classes.rangeOk, rangeOk_d1, rangeOk_unused, rangeOk_v3, Bool.and_true, Bool.true_and]
theorem GroupCheck.vlensq2 (rd rs1 : Reg) : GroupCheck.Statement (.vlensq2 rd rs1) := by
  show Classes.rangeOk ⟨.d1, .v2, .unused, .unused⟩ ⟨rd, rs1, 0, 0⟩ = (groupFits rs1 2)
  simp only [Classes.rangeOk, rangeOk_d1, rangeOk_unused, rangeOk_v2, Bool.and_true, Bool.true_and]
theorem GroupCheck.vlensq3 (rd rs1 : Reg) : GroupCheck.Statement (.vlensq3 rd rs1) := by
  show Classes.rangeOk ⟨.d1, .v3, .unused, .unused⟩ ⟨rd, rs1, 0, 0⟩ = (groupFits rs1 3)
  simp only [Classes.rangeOk, rangeOk_d1, rangeOk_unused, rangeOk_v3, Bool.and_true, Bool.true_and]
theorem GroupCheck.vlen2 (rd rs1 : Reg) : GroupCheck.Statement (.vlen2 rd rs1) := by
  show Classes.rangeOk ⟨.d1, .v2, .unused, .unused⟩ ⟨rd, rs1, 0, 0⟩ = (groupFits rs1 2)
  simp only [Classes.rangeOk, rangeOk_d1, rangeOk_unused, rangeOk_v2, Bool.and_true, Bool.true_and]
theorem GroupCheck.vlen3 (rd rs1 : Reg) : GroupCheck.Statement (.vlen3 rd rs1) := by
  show Classes.rangeOk ⟨.d1, .v3, .unused, .unused⟩ ⟨rd, rs1, 0, 0⟩ = (groupFits rs1 3)
  simp only [Classes.rangeOk, rangeOk_d1, rangeOk_unused, rangeOk_v3, Bool.and_true, Bool.true_and]
theorem GroupCheck.vnorm2 (rd rs1 : Reg) : GroupCheck.Statement (.vnorm2 rd rs1) := by
  show Classes.rangeOk ⟨.d2, .v2, .unused, .unused⟩ ⟨rd, rs1, 0, 0⟩ = (groupFits rd 2 && groupFits rs1 2)
  simp only [Classes.rangeOk, rangeOk_d2, rangeOk_unused, rangeOk_v2, Bool.and_true]
theorem GroupCheck.vnorm3 (rd rs1 : Reg) : GroupCheck.Statement (.vnorm3 rd rs1) := by
  show Classes.rangeOk ⟨.d3, .v3, .unused, .unused⟩ ⟨rd, rs1, 0, 0⟩ = (groupFits rd 3 && groupFits rs1 3)
  simp only [Classes.rangeOk, rangeOk_d3, rangeOk_unused, rangeOk_v3, Bool.and_true]
theorem GroupCheck.vdist2 (rd rs1 rs2 : Reg) : GroupCheck.Statement (.vdist2 rd rs1 rs2) := by
  show Classes.rangeOk ⟨.d1, .v2, .v2, .unused⟩ ⟨rd, rs1, rs2, 0⟩ = (groupFits rs1 2 && groupFits rs2 2)
  simp only [Classes.rangeOk, rangeOk_d1, rangeOk_unused, rangeOk_v2, Bool.and_true, Bool.true_and]
theorem GroupCheck.vdist3 (rd rs1 rs2 : Reg) : GroupCheck.Statement (.vdist3 rd rs1 rs2) := by
  show Classes.rangeOk ⟨.d1, .v3, .v3, .unused⟩ ⟨rd, rs1, rs2, 0⟩ = (groupFits rs1 3 && groupFits rs2 3)
  simp only [Classes.rangeOk, rangeOk_d1, rangeOk_unused, rangeOk_v3, Bool.and_true, Bool.true_and]
theorem GroupCheck.proj (rd rs1 : Reg) : GroupCheck.Statement (.proj rd rs1) := by
  show Classes.rangeOk ⟨.d4, .v3, .unused, .unused⟩ ⟨rd, rs1, 0, 0⟩ = (groupFits rd 4 && groupFits rs1 3)
  simp only [Classes.rangeOk, rangeOk_d4, rangeOk_unused, rangeOk_v3, Bool.and_true]
theorem GroupCheck.projs (rd rs1 rs2 : Reg) : GroupCheck.Statement (.projs rd rs1 rs2) := by
  show Classes.rangeOk ⟨.d4, .v3, .s, .unused⟩ ⟨rd, rs1, rs2, 0⟩ = (groupFits rd 4 && groupFits rs1 3)
  simp only [Classes.rangeOk, rangeOk_d4, rangeOk_s, rangeOk_unused, rangeOk_v3, Bool.and_true]
theorem GroupCheck.sprscale (rd rs1 rs2 rs3 : Reg) : GroupCheck.Statement (.sprscale rd rs1 rs2 rs3) := by
  show Classes.rangeOk ⟨.d1, .s, .s, .s⟩ ⟨rd, rs1, rs2, rs3⟩ = (true)
  simp only [Classes.rangeOk, rangeOk_d1, rangeOk_s, Bool.and_true]
theorem GroupCheck.cmpdepth (rd rs1 rs2 : Reg) : GroupCheck.Statement (.cmpdepth rd rs1 rs2) := by
  show Classes.rangeOk ⟨.d1, .v3, .v3, .unused⟩ ⟨rd, rs1, rs2, 0⟩ = (groupFits rs1 3 && groupFits rs2 3)
  simp only [Classes.rangeOk, rangeOk_d1, rangeOk_unused, rangeOk_v3, Bool.and_true, Bool.true_and]

theorem FieldsRebuild.fromint (rd rs1 : Reg) : FieldsRebuild.Statement (.fromint rd rs1) :=
  ⟨rfl, _, rfl, rfl⟩
theorem FieldsRebuild.fadd (rd rs1 rs2 : Reg) : FieldsRebuild.Statement (.fadd rd rs1 rs2) :=
  ⟨rfl, _, rfl, rfl⟩
theorem FieldsRebuild.fsub (rd rs1 rs2 : Reg) : FieldsRebuild.Statement (.fsub rd rs1 rs2) :=
  ⟨rfl, _, rfl, rfl⟩
theorem FieldsRebuild.fmul (rd rs1 rs2 : Reg) : FieldsRebuild.Statement (.fmul rd rs1 rs2) :=
  ⟨rfl, _, rfl, rfl⟩
theorem FieldsRebuild.fdiv (rd rs1 rs2 : Reg) : FieldsRebuild.Statement (.fdiv rd rs1 rs2) :=
  ⟨rfl, _, rfl, rfl⟩
theorem FieldsRebuild.fround (rd rs1 : Reg) : FieldsRebuild.Statement (.fround rd rs1) :=
  ⟨rfl, _, rfl, rfl⟩
theorem FieldsRebuild.ffloor (rd rs1 : Reg) : FieldsRebuild.Statement (.ffloor rd rs1) :=
  ⟨rfl, _, rfl, rfl⟩
theorem FieldsRebuild.fceil (rd rs1 : Reg) : FieldsRebuild.Statement (.fceil rd rs1) :=
  ⟨rfl, _, rfl, rfl⟩
theorem FieldsRebuild.ffrac (rd rs1 : Reg) : FieldsRebuild.Statement (.ffrac rd rs1) :=
  ⟨rfl, _, rfl, rfl⟩
theorem FieldsRebuild.fclamp (rd rs1 rs2 rs3 : Reg) : FieldsRebuild.Statement (.fclamp rd rs1 rs2 rs3) :=
  ⟨rfl, _, rfl, rfl⟩
theorem FieldsRebuild.flerp (rd rs1 rs2 rs3 : Reg) : FieldsRebuild.Statement (.flerp rd rs1 rs2 rs3) :=
  ⟨rfl, _, rfl, rfl⟩
theorem FieldsRebuild.fcmp (rd rs1 rs2 : Reg) : FieldsRebuild.Statement (.fcmp rd rs1 rs2) :=
  ⟨rfl, _, rfl, rfl⟩
theorem FieldsRebuild.fsqrt (rd rs1 : Reg) : FieldsRebuild.Statement (.fsqrt rd rs1) :=
  ⟨rfl, _, rfl, rfl⟩
theorem FieldsRebuild.isqrt (rd rs1 : Reg) : FieldsRebuild.Statement (.isqrt rd rs1) :=
  ⟨rfl, _, rfl, rfl⟩
theorem FieldsRebuild.sin (rd rs1 : Reg) : FieldsRebuild.Statement (.sin rd rs1) :=
  ⟨rfl, _, rfl, rfl⟩
theorem FieldsRebuild.cos (rd rs1 : Reg) : FieldsRebuild.Statement (.cos rd rs1) :=
  ⟨rfl, _, rfl, rfl⟩
theorem FieldsRebuild.tan (rd rs1 : Reg) : FieldsRebuild.Statement (.tan rd rs1) :=
  ⟨rfl, _, rfl, rfl⟩
theorem FieldsRebuild.atan2 (rd rs1 rs2 : Reg) : FieldsRebuild.Statement (.atan2 rd rs1 rs2) :=
  ⟨rfl, _, rfl, rfl⟩
theorem FieldsRebuild.deg2ang (rd rs1 : Reg) : FieldsRebuild.Statement (.deg2ang rd rs1) :=
  ⟨rfl, _, rfl, rfl⟩
theorem FieldsRebuild.ang2deg (rd rs1 : Reg) : FieldsRebuild.Statement (.ang2deg rd rs1) :=
  ⟨rfl, _, rfl, rfl⟩
theorem FieldsRebuild.rad2ang (rd rs1 : Reg) : FieldsRebuild.Statement (.rad2ang rd rs1) :=
  ⟨rfl, _, rfl, rfl⟩
theorem FieldsRebuild.ang2rad (rd rs1 : Reg) : FieldsRebuild.Statement (.ang2rad rd rs1) :=
  ⟨rfl, _, rfl, rfl⟩
theorem FieldsRebuild.rint (rd rs1 : Reg) : FieldsRebuild.Statement (.rint rd rs1) :=
  ⟨rfl, _, rfl, rfl⟩
theorem FieldsRebuild.rrange (rd rs1 rs2 : Reg) : FieldsRebuild.Statement (.rrange rd rs1 rs2) :=
  ⟨rfl, _, rfl, rfl⟩
theorem FieldsRebuild.rbool (rd : Reg) : FieldsRebuild.Statement (.rbool rd) :=
  ⟨rfl, _, rfl, rfl⟩
theorem FieldsRebuild.rfix (rd : Reg) : FieldsRebuild.Statement (.rfix rd) :=
  ⟨rfl, _, rfl, rfl⟩
theorem FieldsRebuild.vadd2 (rd rs1 rs2 : Reg) : FieldsRebuild.Statement (.vadd2 rd rs1 rs2) :=
  ⟨rfl, _, rfl, rfl⟩
theorem FieldsRebuild.vadd3 (rd rs1 rs2 : Reg) : FieldsRebuild.Statement (.vadd3 rd rs1 rs2) :=
  ⟨rfl, _, rfl, rfl⟩
theorem FieldsRebuild.vsub2 (rd rs1 rs2 : Reg) : FieldsRebuild.Statement (.vsub2 rd rs1 rs2) :=
  ⟨rfl, _, rfl, rfl⟩
theorem FieldsRebuild.vsub3 (rd rs1 rs2 : Reg) : FieldsRebuild.Statement (.vsub3 rd rs1 rs2) :=
  ⟨rfl, _, rfl, rfl⟩
theorem FieldsRebuild.vscale2 (rd rs1 rs2 : Reg) : FieldsRebuild.Statement (.vscale2 rd rs1 rs2) :=
  ⟨rfl, _, rfl, rfl⟩
theorem FieldsRebuild.vscale3 (rd rs1 rs2 : Reg) : FieldsRebuild.Statement (.vscale3 rd rs1 rs2) :=
  ⟨rfl, _, rfl, rfl⟩
theorem FieldsRebuild.vdivs2 (rd rs1 rs2 : Reg) : FieldsRebuild.Statement (.vdivs2 rd rs1 rs2) :=
  ⟨rfl, _, rfl, rfl⟩
theorem FieldsRebuild.vdivs3 (rd rs1 rs2 : Reg) : FieldsRebuild.Statement (.vdivs3 rd rs1 rs2) :=
  ⟨rfl, _, rfl, rfl⟩
theorem FieldsRebuild.vneg2 (rd rs1 : Reg) : FieldsRebuild.Statement (.vneg2 rd rs1) :=
  ⟨rfl, _, rfl, rfl⟩
theorem FieldsRebuild.vneg3 (rd rs1 : Reg) : FieldsRebuild.Statement (.vneg3 rd rs1) :=
  ⟨rfl, _, rfl, rfl⟩
theorem FieldsRebuild.vdot2 (rd rs1 rs2 : Reg) : FieldsRebuild.Statement (.vdot2 rd rs1 rs2) :=
  ⟨rfl, _, rfl, rfl⟩
theorem FieldsRebuild.vdot3 (rd rs1 rs2 : Reg) : FieldsRebuild.Statement (.vdot3 rd rs1 rs2) :=
  ⟨rfl, _, rfl, rfl⟩
theorem FieldsRebuild.vcross3 (rd rs1 rs2 : Reg) : FieldsRebuild.Statement (.vcross3 rd rs1 rs2) :=
  ⟨rfl, _, rfl, rfl⟩
theorem FieldsRebuild.veq2 (rd rs1 rs2 : Reg) : FieldsRebuild.Statement (.veq2 rd rs1 rs2) :=
  ⟨rfl, _, rfl, rfl⟩
theorem FieldsRebuild.veq3 (rd rs1 rs2 : Reg) : FieldsRebuild.Statement (.veq3 rd rs1 rs2) :=
  ⟨rfl, _, rfl, rfl⟩
theorem FieldsRebuild.vlensq2 (rd rs1 : Reg) : FieldsRebuild.Statement (.vlensq2 rd rs1) :=
  ⟨rfl, _, rfl, rfl⟩
theorem FieldsRebuild.vlensq3 (rd rs1 : Reg) : FieldsRebuild.Statement (.vlensq3 rd rs1) :=
  ⟨rfl, _, rfl, rfl⟩
theorem FieldsRebuild.vlen2 (rd rs1 : Reg) : FieldsRebuild.Statement (.vlen2 rd rs1) :=
  ⟨rfl, _, rfl, rfl⟩
theorem FieldsRebuild.vlen3 (rd rs1 : Reg) : FieldsRebuild.Statement (.vlen3 rd rs1) :=
  ⟨rfl, _, rfl, rfl⟩
theorem FieldsRebuild.vnorm2 (rd rs1 : Reg) : FieldsRebuild.Statement (.vnorm2 rd rs1) :=
  ⟨rfl, _, rfl, rfl⟩
theorem FieldsRebuild.vnorm3 (rd rs1 : Reg) : FieldsRebuild.Statement (.vnorm3 rd rs1) :=
  ⟨rfl, _, rfl, rfl⟩
theorem FieldsRebuild.vdist2 (rd rs1 rs2 : Reg) : FieldsRebuild.Statement (.vdist2 rd rs1 rs2) :=
  ⟨rfl, _, rfl, rfl⟩
theorem FieldsRebuild.vdist3 (rd rs1 rs2 : Reg) : FieldsRebuild.Statement (.vdist3 rd rs1 rs2) :=
  ⟨rfl, _, rfl, rfl⟩
theorem FieldsRebuild.proj (rd rs1 : Reg) : FieldsRebuild.Statement (.proj rd rs1) :=
  ⟨rfl, _, rfl, rfl⟩
theorem FieldsRebuild.projs (rd rs1 rs2 : Reg) : FieldsRebuild.Statement (.projs rd rs1 rs2) :=
  ⟨rfl, _, rfl, rfl⟩
theorem FieldsRebuild.sprscale (rd rs1 rs2 rs3 : Reg) : FieldsRebuild.Statement (.sprscale rd rs1 rs2 rs3) :=
  ⟨rfl, _, rfl, rfl⟩
theorem FieldsRebuild.cmpdepth (rd rs1 rs2 : Reg) : FieldsRebuild.Statement (.cmpdepth rd rs1 rs2) :=
  ⟨rfl, _, rfl, rfl⟩

end Sys2Proof.Laws
end

