-- ==== Sys2Proof/Laws/Decode.lean ====
section
/-! SUPPORT. The fields of a command word: taking a packed word apart gives its parts, and a word is packed
from its parts. -/

namespace Sys2Proof

/-- The bits of a packed word, field by field (30_encoding.md R48). -/
theorem packWord_getLsbD (op : BitVec 6) (f : Fields) (i : Nat) : (packWord op f).getLsbD i =
    if i < 10 then false
    else if i < 14 then (BitVec.ofFin (w := 4) f.rs3).getLsbD (i - 10)
    else if i < 18 then (BitVec.ofFin (w := 4) f.rs2).getLsbD (i - 14)
    else if i < 22 then (BitVec.ofFin (w := 4) f.rs1).getLsbD (i - 18)
    else if i < 26 then (BitVec.ofFin (w := 4) f.rd).getLsbD (i - 22)
    else op.getLsbD (i - 26) := by
  have h : packWord op f = BitVec.cast (show 6 + 4 + 4 + 4 + 4 + 10 = 32 from rfl)
      (op ++ BitVec.ofFin (w := 4) f.rd ++ BitVec.ofFin (w := 4) f.rs1 ++ BitVec.ofFin (w := 4) f.rs2
        ++ BitVec.ofFin (w := 4) f.rs3 ++ 0#10) := rfl
  rw [h, BitVec.getLsbD_cast]
  simp only [BitVec.getLsbD_append, Nat.sub_sub, BitVec.getLsbD_zero]
  split_ifs <;> first | rfl | omega

theorem opField_packWord (op : BitVec 6) (f : Fields) : opField (packWord op f) = op := by
  apply BitVec.eq_of_getLsbD_eq
  intro i hi
  simp only [opField, BitVec.getLsbD_extractLsb', packWord_getLsbD]
  rw [if_neg (by omega), if_neg (by omega), if_neg (by omega), if_neg (by omega), if_neg (by omega)]
  simp [hi]

/-- A packed word as a number: each field at its place (30_encoding.md R48). -/
theorem packWord_toNat (op : BitVec 6) (f : Fields) : (packWord op f).toNat =
    op.toNat * 2 ^ 26 + f.rd.val * 2 ^ 22 + f.rs1.val * 2 ^ 18 + f.rs2.val * 2 ^ 14 + f.rs3.val * 2 ^ 10 := by
  have h1 := f.rd.isLt
  have h2 := f.rs1.isLt
  have h3 := f.rs2.isLt
  have h4 := f.rs3.isLt
  simp only [packWord, BitVec.toNat_append, BitVec.toNat_ofFin]
  rw [← Nat.shiftLeft_add_eq_or_of_lt (by omega), ← Nat.shiftLeft_add_eq_or_of_lt (by omega),
    ← Nat.shiftLeft_add_eq_or_of_lt (by omega), ← Nat.shiftLeft_add_eq_or_of_lt (by omega),
    ← Nat.shiftLeft_add_eq_or_of_lt (by omega)]
  simp only [Nat.shiftLeft_eq, BitVec.toNat_ofNat]
  omega

theorem zeroField_packWord (op : BitVec 6) (f : Fields) : zeroField (packWord op f) = 0#10 := by
  apply BitVec.eq_of_getLsbD_eq
  intro i hi
  simp [zeroField, packWord_getLsbD, hi]

theorem fieldsOf_packWord (op : BitVec 6) (f : Fields) : fieldsOf (packWord op f) = f := by
  have key : ∀ (n : Nat) (r : Reg), (∀ i, i < 4 →
      (packWord op f).getLsbD (n + i) = (BitVec.ofFin (w := 4) r).getLsbD i) →
      ((packWord op f).extractLsb' n 4).toFin = r := by
    intro n r h
    have : (packWord op f).extractLsb' n 4 = BitVec.ofFin (w := 4) r := by
      apply BitVec.eq_of_getLsbD_eq
      intro i hi
      simp only [BitVec.getLsbD_extractLsb', hi, decide_true, Bool.true_and, h i hi]
    rw [this]
  obtain ⟨rd, rs1, rs2, rs3⟩ := f
  simp only [fieldsOf, Fields.mk.injEq]
  refine ⟨key _ _ ?_, key _ _ ?_, key _ _ ?_, key _ _ ?_⟩ <;> intro i hi <;>
    rw [packWord_getLsbD] <;> split_ifs <;> first | omega | (congr 1; omega)

/-- A word whose reserved field is 0 is packed from its opcode and its register fields
(30_encoding.md R48). -/
theorem packWord_fieldsOf (w : Word) (h : zeroField w = 0#10) : packWord (opField w) (fieldsOf w) = w := by
  have hz : ∀ i, i < 10 → w.getLsbD i = false := by
    intro i hi
    have := congrArg (fun v => BitVec.getLsbD v i) h
    simpa [zeroField, BitVec.getLsbD_extractLsb', hi] using this
  have hf : ∀ n, BitVec.ofFin (w := 4) (w.extractLsb' n 4).toFin = w.extractLsb' n 4 := fun _ => rfl
  apply BitVec.eq_of_getLsbD_eq
  intro i hi
  rw [packWord_getLsbD]
  simp only [opField, fieldsOf, hf, BitVec.getLsbD_extractLsb']
  split_ifs with h1 h2 h3 h4 h5
  · rw [hz i h1]
  · rw [decide_eq_true (by omega), Bool.true_and, Nat.add_sub_cancel' (by omega)]
  · rw [decide_eq_true (by omega), Bool.true_and, Nat.add_sub_cancel' (by omega)]
  · rw [decide_eq_true (by omega), Bool.true_and, Nat.add_sub_cancel' (by omega)]
  · rw [decide_eq_true (by omega), Bool.true_and, Nat.add_sub_cancel' (by omega)]
  · rw [decide_eq_true (by omega), Bool.true_and, Nat.add_sub_cancel' (by omega)]

/-- The fields of an encoded command are its own (30_encoding.md R48). -/
theorem encode_fields (i : Instr) : opField (encode i) = i.opcode ∧ fieldsOf (encode i) = i.fields ∧
    zeroField (encode i) = 0#10 :=
  ⟨opField_packWord _ _, fieldsOf_packWord _ _, zeroField_packWord _ _⟩

end Sys2Proof
end

