-- ==== Sys2Proof/Laws/State.lean ====
section
/-! SUPPORT. What each update of a state does to each field of it, and how registers read after a write. -/

namespace Sys2Proof.Machine

@[simp] theorem State.setReg_err (s : State) (r : Reg) (w : Word) : (s.setReg r w).err = s.err := rfl
@[simp] theorem State.setReg_ovr (s : State) (r : Reg) (w : Word) : (s.setReg r w).ovr = s.ovr := rfl
@[simp] theorem State.setReg_cause (s : State) (r : Reg) (w : Word) : (s.setReg r w).cause = s.cause := rfl
@[simp] theorem State.setReg_errcmd (s : State) (r : Reg) (w : Word) : (s.setReg r w).errcmd = s.errcmd := rfl
@[simp] theorem State.setReg_rngSeed (s : State) (r : Reg) (w : Word) : (s.setReg r w).rngSeed = s.rngSeed := rfl
@[simp] theorem State.setReg_camPX (s : State) (r : Reg) (w : Word) : (s.setReg r w).camPX = s.camPX := rfl
@[simp] theorem State.setReg_camPY (s : State) (r : Reg) (w : Word) : (s.setReg r w).camPY = s.camPY := rfl
@[simp] theorem State.setReg_camPZ (s : State) (r : Reg) (w : Word) : (s.setReg r w).camPZ = s.camPZ := rfl
@[simp] theorem State.setReg_camTX (s : State) (r : Reg) (w : Word) : (s.setReg r w).camTX = s.camTX := rfl
@[simp] theorem State.setReg_camTY (s : State) (r : Reg) (w : Word) : (s.setReg r w).camTY = s.camTY := rfl
@[simp] theorem State.setReg_camTZ (s : State) (r : Reg) (w : Word) : (s.setReg r w).camTZ = s.camTZ := rfl
@[simp] theorem State.setReg_camFov (s : State) (r : Reg) (w : Word) : (s.setReg r w).camFov = s.camFov := rfl
@[simp] theorem State.setReg_camNear (s : State) (r : Reg) (w : Word) : (s.setReg r w).camNear = s.camNear := rfl
@[simp] theorem State.setReg_camFar (s : State) (r : Reg) (w : Word) : (s.setReg r w).camFar = s.camFar := rfl
@[simp] theorem State.setReg_screenW (s : State) (r : Reg) (w : Word) : (s.setReg r w).screenW = s.screenW := rfl
@[simp] theorem State.setReg_screenH (s : State) (r : Reg) (w : Word) : (s.setReg r w).screenH = s.screenH := rfl
@[simp] theorem State.setReg_cfg (s : State) (r : Reg) (w : Word) : (s.setReg r w).cfg = s.cfg := rfl
@[simp] theorem State.setReg_host (s : State) (r : Reg) (w : Word) : (s.setReg r w).host = s.host := rfl
@[simp] theorem State.setReg_resp (s : State) (r : Reg) (w : Word) : (s.setReg r w).resp = s.resp := rfl

@[simp] theorem State.setV2_err (s : State) (d : Reg) (v : V2) : (s.setV2 d v).err = s.err := rfl
@[simp] theorem State.setV2_ovr (s : State) (d : Reg) (v : V2) : (s.setV2 d v).ovr = s.ovr := rfl
@[simp] theorem State.setV2_cause (s : State) (d : Reg) (v : V2) : (s.setV2 d v).cause = s.cause := rfl
@[simp] theorem State.setV2_errcmd (s : State) (d : Reg) (v : V2) : (s.setV2 d v).errcmd = s.errcmd := rfl
@[simp] theorem State.setV2_rngSeed (s : State) (d : Reg) (v : V2) : (s.setV2 d v).rngSeed = s.rngSeed := rfl
@[simp] theorem State.setV2_camPX (s : State) (d : Reg) (v : V2) : (s.setV2 d v).camPX = s.camPX := rfl
@[simp] theorem State.setV2_camPY (s : State) (d : Reg) (v : V2) : (s.setV2 d v).camPY = s.camPY := rfl
@[simp] theorem State.setV2_camPZ (s : State) (d : Reg) (v : V2) : (s.setV2 d v).camPZ = s.camPZ := rfl
@[simp] theorem State.setV2_camTX (s : State) (d : Reg) (v : V2) : (s.setV2 d v).camTX = s.camTX := rfl
@[simp] theorem State.setV2_camTY (s : State) (d : Reg) (v : V2) : (s.setV2 d v).camTY = s.camTY := rfl
@[simp] theorem State.setV2_camTZ (s : State) (d : Reg) (v : V2) : (s.setV2 d v).camTZ = s.camTZ := rfl
@[simp] theorem State.setV2_camFov (s : State) (d : Reg) (v : V2) : (s.setV2 d v).camFov = s.camFov := rfl
@[simp] theorem State.setV2_camNear (s : State) (d : Reg) (v : V2) : (s.setV2 d v).camNear = s.camNear := rfl
@[simp] theorem State.setV2_camFar (s : State) (d : Reg) (v : V2) : (s.setV2 d v).camFar = s.camFar := rfl
@[simp] theorem State.setV2_screenW (s : State) (d : Reg) (v : V2) : (s.setV2 d v).screenW = s.screenW := rfl
@[simp] theorem State.setV2_screenH (s : State) (d : Reg) (v : V2) : (s.setV2 d v).screenH = s.screenH := rfl
@[simp] theorem State.setV2_cfg (s : State) (d : Reg) (v : V2) : (s.setV2 d v).cfg = s.cfg := rfl
@[simp] theorem State.setV2_host (s : State) (d : Reg) (v : V2) : (s.setV2 d v).host = s.host := rfl
@[simp] theorem State.setV2_resp (s : State) (d : Reg) (v : V2) : (s.setV2 d v).resp = s.resp := rfl

@[simp] theorem State.setV3_err (s : State) (d : Reg) (v : V3) : (s.setV3 d v).err = s.err := rfl
@[simp] theorem State.setV3_ovr (s : State) (d : Reg) (v : V3) : (s.setV3 d v).ovr = s.ovr := rfl
@[simp] theorem State.setV3_cause (s : State) (d : Reg) (v : V3) : (s.setV3 d v).cause = s.cause := rfl
@[simp] theorem State.setV3_errcmd (s : State) (d : Reg) (v : V3) : (s.setV3 d v).errcmd = s.errcmd := rfl
@[simp] theorem State.setV3_rngSeed (s : State) (d : Reg) (v : V3) : (s.setV3 d v).rngSeed = s.rngSeed := rfl
@[simp] theorem State.setV3_camPX (s : State) (d : Reg) (v : V3) : (s.setV3 d v).camPX = s.camPX := rfl
@[simp] theorem State.setV3_camPY (s : State) (d : Reg) (v : V3) : (s.setV3 d v).camPY = s.camPY := rfl
@[simp] theorem State.setV3_camPZ (s : State) (d : Reg) (v : V3) : (s.setV3 d v).camPZ = s.camPZ := rfl
@[simp] theorem State.setV3_camTX (s : State) (d : Reg) (v : V3) : (s.setV3 d v).camTX = s.camTX := rfl
@[simp] theorem State.setV3_camTY (s : State) (d : Reg) (v : V3) : (s.setV3 d v).camTY = s.camTY := rfl
@[simp] theorem State.setV3_camTZ (s : State) (d : Reg) (v : V3) : (s.setV3 d v).camTZ = s.camTZ := rfl
@[simp] theorem State.setV3_camFov (s : State) (d : Reg) (v : V3) : (s.setV3 d v).camFov = s.camFov := rfl
@[simp] theorem State.setV3_camNear (s : State) (d : Reg) (v : V3) : (s.setV3 d v).camNear = s.camNear := rfl
@[simp] theorem State.setV3_camFar (s : State) (d : Reg) (v : V3) : (s.setV3 d v).camFar = s.camFar := rfl
@[simp] theorem State.setV3_screenW (s : State) (d : Reg) (v : V3) : (s.setV3 d v).screenW = s.screenW := rfl
@[simp] theorem State.setV3_screenH (s : State) (d : Reg) (v : V3) : (s.setV3 d v).screenH = s.screenH := rfl
@[simp] theorem State.setV3_cfg (s : State) (d : Reg) (v : V3) : (s.setV3 d v).cfg = s.cfg := rfl
@[simp] theorem State.setV3_host (s : State) (d : Reg) (v : V3) : (s.setV3 d v).host = s.host := rfl
@[simp] theorem State.setV3_resp (s : State) (d : Reg) (v : V3) : (s.setV3 d v).resp = s.resp := rfl

@[simp] theorem State.setProjection_err (s : State) (d : Reg) (p : ProjectionResult) : (s.setProjection d p).err = s.err := rfl
@[simp] theorem State.setProjection_ovr (s : State) (d : Reg) (p : ProjectionResult) : (s.setProjection d p).ovr = s.ovr := rfl
@[simp] theorem State.setProjection_cause (s : State) (d : Reg) (p : ProjectionResult) : (s.setProjection d p).cause = s.cause := rfl
@[simp] theorem State.setProjection_errcmd (s : State) (d : Reg) (p : ProjectionResult) : (s.setProjection d p).errcmd = s.errcmd := rfl
@[simp] theorem State.setProjection_rngSeed (s : State) (d : Reg) (p : ProjectionResult) : (s.setProjection d p).rngSeed = s.rngSeed := rfl
@[simp] theorem State.setProjection_camPX (s : State) (d : Reg) (p : ProjectionResult) : (s.setProjection d p).camPX = s.camPX := rfl
@[simp] theorem State.setProjection_camPY (s : State) (d : Reg) (p : ProjectionResult) : (s.setProjection d p).camPY = s.camPY := rfl
@[simp] theorem State.setProjection_camPZ (s : State) (d : Reg) (p : ProjectionResult) : (s.setProjection d p).camPZ = s.camPZ := rfl
@[simp] theorem State.setProjection_camTX (s : State) (d : Reg) (p : ProjectionResult) : (s.setProjection d p).camTX = s.camTX := rfl
@[simp] theorem State.setProjection_camTY (s : State) (d : Reg) (p : ProjectionResult) : (s.setProjection d p).camTY = s.camTY := rfl
@[simp] theorem State.setProjection_camTZ (s : State) (d : Reg) (p : ProjectionResult) : (s.setProjection d p).camTZ = s.camTZ := rfl
@[simp] theorem State.setProjection_camFov (s : State) (d : Reg) (p : ProjectionResult) : (s.setProjection d p).camFov = s.camFov := rfl
@[simp] theorem State.setProjection_camNear (s : State) (d : Reg) (p : ProjectionResult) : (s.setProjection d p).camNear = s.camNear := rfl
@[simp] theorem State.setProjection_camFar (s : State) (d : Reg) (p : ProjectionResult) : (s.setProjection d p).camFar = s.camFar := rfl
@[simp] theorem State.setProjection_screenW (s : State) (d : Reg) (p : ProjectionResult) : (s.setProjection d p).screenW = s.screenW := rfl
@[simp] theorem State.setProjection_screenH (s : State) (d : Reg) (p : ProjectionResult) : (s.setProjection d p).screenH = s.screenH := rfl
@[simp] theorem State.setProjection_cfg (s : State) (d : Reg) (p : ProjectionResult) : (s.setProjection d p).cfg = s.cfg := rfl
@[simp] theorem State.setProjection_host (s : State) (d : Reg) (p : ProjectionResult) : (s.setProjection d p).host = s.host := rfl
@[simp] theorem State.setProjection_resp (s : State) (d : Reg) (p : ProjectionResult) : (s.setProjection d p).resp = s.resp := rfl

@[simp] theorem State.setRandom_err (s : State) (d : Reg) (w : Word) : (s.setRandom d w).err = s.err := rfl
@[simp] theorem State.setRandom_ovr (s : State) (d : Reg) (w : Word) : (s.setRandom d w).ovr = s.ovr := rfl
@[simp] theorem State.setRandom_cause (s : State) (d : Reg) (w : Word) : (s.setRandom d w).cause = s.cause := rfl
@[simp] theorem State.setRandom_errcmd (s : State) (d : Reg) (w : Word) : (s.setRandom d w).errcmd = s.errcmd := rfl
@[simp] theorem State.setRandom_rngSeed (s : State) (d : Reg) (w : Word) : (s.setRandom d w).rngSeed = rngNext s.cfg s.rngSeed := rfl
@[simp] theorem State.setRandom_camPX (s : State) (d : Reg) (w : Word) : (s.setRandom d w).camPX = s.camPX := rfl
@[simp] theorem State.setRandom_camPY (s : State) (d : Reg) (w : Word) : (s.setRandom d w).camPY = s.camPY := rfl
@[simp] theorem State.setRandom_camPZ (s : State) (d : Reg) (w : Word) : (s.setRandom d w).camPZ = s.camPZ := rfl
@[simp] theorem State.setRandom_camTX (s : State) (d : Reg) (w : Word) : (s.setRandom d w).camTX = s.camTX := rfl
@[simp] theorem State.setRandom_camTY (s : State) (d : Reg) (w : Word) : (s.setRandom d w).camTY = s.camTY := rfl
@[simp] theorem State.setRandom_camTZ (s : State) (d : Reg) (w : Word) : (s.setRandom d w).camTZ = s.camTZ := rfl
@[simp] theorem State.setRandom_camFov (s : State) (d : Reg) (w : Word) : (s.setRandom d w).camFov = s.camFov := rfl
@[simp] theorem State.setRandom_camNear (s : State) (d : Reg) (w : Word) : (s.setRandom d w).camNear = s.camNear := rfl
@[simp] theorem State.setRandom_camFar (s : State) (d : Reg) (w : Word) : (s.setRandom d w).camFar = s.camFar := rfl
@[simp] theorem State.setRandom_screenW (s : State) (d : Reg) (w : Word) : (s.setRandom d w).screenW = s.screenW := rfl
@[simp] theorem State.setRandom_screenH (s : State) (d : Reg) (w : Word) : (s.setRandom d w).screenH = s.screenH := rfl
@[simp] theorem State.setRandom_cfg (s : State) (d : Reg) (w : Word) : (s.setRandom d w).cfg = s.cfg := rfl
@[simp] theorem State.setRandom_host (s : State) (d : Reg) (w : Word) : (s.setRandom d w).host = s.host := rfl
@[simp] theorem State.setRandom_resp (s : State) (d : Reg) (w : Word) : (s.setRandom d w).resp = s.resp := rfl

@[simp] theorem clearStatus_err (s : State) : (clearStatus s).err = false := rfl
@[simp] theorem clearStatus_ovr (s : State) : (clearStatus s).ovr = false := rfl
@[simp] theorem clearStatus_cause (s : State) : (clearStatus s).cause = 0#4 := rfl
@[simp] theorem clearStatus_errcmd (s : State) : (clearStatus s).errcmd = 0#32 := rfl
@[simp] theorem clearStatus_rngSeed (s : State) : (clearStatus s).rngSeed = s.rngSeed := rfl
@[simp] theorem clearStatus_camPX (s : State) : (clearStatus s).camPX = s.camPX := rfl
@[simp] theorem clearStatus_camPY (s : State) : (clearStatus s).camPY = s.camPY := rfl
@[simp] theorem clearStatus_camPZ (s : State) : (clearStatus s).camPZ = s.camPZ := rfl
@[simp] theorem clearStatus_camTX (s : State) : (clearStatus s).camTX = s.camTX := rfl
@[simp] theorem clearStatus_camTY (s : State) : (clearStatus s).camTY = s.camTY := rfl
@[simp] theorem clearStatus_camTZ (s : State) : (clearStatus s).camTZ = s.camTZ := rfl
@[simp] theorem clearStatus_camFov (s : State) : (clearStatus s).camFov = s.camFov := rfl
@[simp] theorem clearStatus_camNear (s : State) : (clearStatus s).camNear = s.camNear := rfl
@[simp] theorem clearStatus_camFar (s : State) : (clearStatus s).camFar = s.camFar := rfl
@[simp] theorem clearStatus_screenW (s : State) : (clearStatus s).screenW = s.screenW := rfl
@[simp] theorem clearStatus_screenH (s : State) : (clearStatus s).screenH = s.screenH := rfl
@[simp] theorem clearStatus_cfg (s : State) : (clearStatus s).cfg = s.cfg := rfl
@[simp] theorem clearStatus_host (s : State) : (clearStatus s).host = s.host := rfl
@[simp] theorem clearStatus_resp (s : State) : (clearStatus s).resp = s.resp := rfl

@[simp] theorem clearStatus_regs (s : State) : (clearStatus s).regs = s.regs := rfl

theorem takeIllegal_first (c : Cause) (w : Word) (s : State) (h : s.err = false) :
    takeIllegal c w s = { s with err := true, cause := causeCode c, errcmd := w } := by
  simp [takeIllegal, h]

theorem takeIllegal_later (c : Cause) (w : Word) (s : State) (h : s.err = true) :
    takeIllegal c w s = { s with ovr := true } := by
  simp [takeIllegal, h]

@[simp] theorem takeIllegal_regs (c : Cause) (w : Word) (s : State) : (takeIllegal c w s).regs = s.regs := by
  cases h : s.err <;> simp [takeIllegal, h]
@[simp] theorem takeIllegal_rngSeed (c : Cause) (w : Word) (s : State) : (takeIllegal c w s).rngSeed = s.rngSeed := by
  cases h : s.err <;> simp [takeIllegal, h]
@[simp] theorem takeIllegal_camPX (c : Cause) (w : Word) (s : State) : (takeIllegal c w s).camPX = s.camPX := by
  cases h : s.err <;> simp [takeIllegal, h]
@[simp] theorem takeIllegal_camPY (c : Cause) (w : Word) (s : State) : (takeIllegal c w s).camPY = s.camPY := by
  cases h : s.err <;> simp [takeIllegal, h]
@[simp] theorem takeIllegal_camPZ (c : Cause) (w : Word) (s : State) : (takeIllegal c w s).camPZ = s.camPZ := by
  cases h : s.err <;> simp [takeIllegal, h]
@[simp] theorem takeIllegal_camTX (c : Cause) (w : Word) (s : State) : (takeIllegal c w s).camTX = s.camTX := by
  cases h : s.err <;> simp [takeIllegal, h]
@[simp] theorem takeIllegal_camTY (c : Cause) (w : Word) (s : State) : (takeIllegal c w s).camTY = s.camTY := by
  cases h : s.err <;> simp [takeIllegal, h]
@[simp] theorem takeIllegal_camTZ (c : Cause) (w : Word) (s : State) : (takeIllegal c w s).camTZ = s.camTZ := by
  cases h : s.err <;> simp [takeIllegal, h]
@[simp] theorem takeIllegal_camFov (c : Cause) (w : Word) (s : State) : (takeIllegal c w s).camFov = s.camFov := by
  cases h : s.err <;> simp [takeIllegal, h]
@[simp] theorem takeIllegal_camNear (c : Cause) (w : Word) (s : State) : (takeIllegal c w s).camNear = s.camNear := by
  cases h : s.err <;> simp [takeIllegal, h]
@[simp] theorem takeIllegal_camFar (c : Cause) (w : Word) (s : State) : (takeIllegal c w s).camFar = s.camFar := by
  cases h : s.err <;> simp [takeIllegal, h]
@[simp] theorem takeIllegal_screenW (c : Cause) (w : Word) (s : State) : (takeIllegal c w s).screenW = s.screenW := by
  cases h : s.err <;> simp [takeIllegal, h]
@[simp] theorem takeIllegal_screenH (c : Cause) (w : Word) (s : State) : (takeIllegal c w s).screenH = s.screenH := by
  cases h : s.err <;> simp [takeIllegal, h]
@[simp] theorem takeIllegal_cfg (c : Cause) (w : Word) (s : State) : (takeIllegal c w s).cfg = s.cfg := by
  cases h : s.err <;> simp [takeIllegal, h]
@[simp] theorem takeIllegal_host (c : Cause) (w : Word) (s : State) : (takeIllegal c w s).host = s.host := by
  cases h : s.err <;> simp [takeIllegal, h]
@[simp] theorem takeIllegal_resp (c : Cause) (w : Word) (s : State) : (takeIllegal c w s).resp = s.resp := by
  cases h : s.err <;> simp [takeIllegal, h]

@[simp] theorem takeIllegal_err (c : Cause) (w : Word) (s : State) : (takeIllegal c w s).err = true := by
  cases h : s.err <;> simp [takeIllegal, h]

/-- A register after a write of one register. -/
theorem State.reg_setReg (s : State) (r q : Reg) (w : Word) :
    (s.setReg r w).reg q = if q = r then w else s.reg q := by
  by_cases h : q = r
  · subst h; simp [State.reg, State.setReg]
  · have h' : ¬ r.val = q.val := fun e => h (Fin.ext e.symm)
    simp [State.reg, State.setReg, h, h']

@[simp] theorem State.reg_setReg_same (s : State) (r : Reg) (w : Word) : (s.setReg r w).reg r = w := by
  simp [State.reg_setReg]

theorem State.reg_setReg_ne (s : State) (r q : Reg) (w : Word) (h : q ≠ r) :
    (s.setReg r w).reg q = s.reg q := by
  simp [State.reg_setReg, h]

@[simp] theorem State.reg_setRandom (s : State) (d q : Reg) (w : Word) :
    (s.setRandom d w).reg q = (s.setReg d w).reg q := rfl

/-- Inside a group that fits, register `j` is the base's number plus `j` (10_state.md R20). -/
theorem groupReg_val (r : Reg) (j : Nat) (h : r.val + j ≤ 15) : (groupReg r j).val = r.val + j := by
  simp [groupReg, Fin.ofNat]; omega

theorem groupFits_iff (r : Reg) (k : Nat) : groupFits r k = true ↔ r.val + k ≤ 16 := by
  simp [groupFits]

/-- The registers after a write of a group of 2. -/
theorem State.reg_setV2 (s : State) (d q : Reg) (v : V2) :
    (s.setV2 d v).reg q = if q = groupReg d 1 then v.y else if q = d then v.x else s.reg q := by
  simp [State.setV2, State.reg_setReg]

/-- The registers after a write of a group of 3. -/
theorem State.reg_setV3 (s : State) (d q : Reg) (v : V3) :
    (s.setV3 d v).reg q = if q = groupReg d 2 then v.z else if q = groupReg d 1 then v.y
      else if q = d then v.x else s.reg q := by
  simp [State.setV3, State.reg_setReg]

/-- The registers after a write of a ProjectionResult. -/
theorem State.reg_setProjection (s : State) (d q : Reg) (p : ProjectionResult) :
    (s.setProjection d p).reg q = if q = groupReg d 3 then boolWord p.visible
      else if q = groupReg d 2 then wrap32 p.scale else if q = groupReg d 1 then wrap32 p.screenY
      else if q = d then wrap32 p.screenX else s.reg q := by
  simp [State.setProjection, State.reg_setReg]

/-- Everything `guarded` can answer. -/
theorem guarded_cases (i : Instr) (s t : State) :
    (i.groupsFit = true ∧ guarded i s t = .next t) ∨
      (i.groupsFit = false ∧ guarded i s t = .next (takeIllegal .groupRange (encode i) s)) := by
  cases h : i.groupsFit <;> simp [guarded, h]

end Sys2Proof.Machine
end

