-- ==== Sys2Proof/Laws/Window.lean ====
section
/-! SUPPORT. The register window after each kind of write: which bytes a write of a register or of a group
can change. -/

namespace Sys2Proof.Machine

open Sys2Proof.Safety

/-- The window map of the general registers: word offset below 16 is that register (20_memory.md R33). -/
theorem windowReg_gpr (n : Nat) (h : n < 16) : windowReg (BitVec.ofNat 5 n) = .gpr (Fin.ofNat 16 n) := by
  interval_cases n <;> rfl

theorem windowReg_control (n : Nat) (h : 16 ≤ n) (h' : n < 32) (r : Reg) :
    windowReg (BitVec.ofNat 5 n) ≠ .gpr r := by
  interval_cases n <;> simp [windowReg]

theorem State.window_gpr (s : State) (n : Nat) (h : n < 16) :
    s.window (BitVec.ofNat 5 n) = s.reg (Fin.ofNat 16 n) := by
  rw [State.window, windowReg_gpr n h]

/-- Two states that differ in their general registers and in RNG_SEED alone. -/
structure AgreesOffRegs (s t : State) : Prop where
  err : t.err = s.err
  ovr : t.ovr = s.ovr
  cause : t.cause = s.cause
  errcmd : t.errcmd = s.errcmd
  camPX : t.camPX = s.camPX
  camPY : t.camPY = s.camPY
  camPZ : t.camPZ = s.camPZ
  camTX : t.camTX = s.camTX
  camTY : t.camTY = s.camTY
  camTZ : t.camTZ = s.camTZ
  camFov : t.camFov = s.camFov
  camNear : t.camNear = s.camNear
  camFar : t.camFar = s.camFar
  screenW : t.screenW = s.screenW
  screenH : t.screenH = s.screenH
  cfg : t.cfg = s.cfg
  host : t.host = s.host
  resp : t.resp = s.resp

/-- Every control word but RNG_SEED reads the same in two such states. -/
theorem AgreesOffRegs.window_eq {s t : State} (h : AgreesOffRegs s t) (n : Nat) (hn : 16 ≤ n) (hn' : n < 32)
    (hs : n ≠ 19) : t.window (BitVec.ofNat 5 n) = s.window (BitVec.ofNat 5 n) := by
  interval_cases n <;>
    simp_all [State.window, windowReg, State.statusWord, h.err, h.ovr, h.cause, h.errcmd, h.camPX, h.camPY,
      h.camPZ, h.camTX, h.camTY, h.camTZ, h.camFov, h.camNear, h.camFar, h.screenW, h.screenH]

/-- What two such states change: the bytes of the registers that differ, and of RNG_SEED where it differs. -/
theorem AgreesOffRegs.unchangedOutside {s t : State} (h : AgreesOffRegs s t) (P : Nat → Prop)
    (hr : ∀ q : Reg, t.reg q ≠ s.reg q → ∀ j, j < 4 → P (4 * q.val + j))
    (hs : t.rngSeed ≠ s.rngSeed → ∀ a, seedBytes a → P a) : UnchangedOutside P s t := by
  refine ⟨fun a ha hP => ?_, h.cfg, h.host, h.resp⟩
  unfold State.windowByte
  have hn : a / 4 < 32 := by omega
  by_cases hlt : a / 4 < 16
  · rw [State.window_gpr _ _ hlt, State.window_gpr _ _ hlt]
    by_cases he : t.reg (Fin.ofNat 16 (a / 4)) = s.reg (Fin.ofNat 16 (a / 4))
    · rw [he]
    · refine absurd ?_ hP
      have hv : (Fin.ofNat 16 (a / 4)).val = a / 4 := by simp [Fin.ofNat]; omega
      have := hr _ he (a % 4) (by omega)
      rwa [hv, Nat.div_add_mod] at this
  · by_cases h19 : a / 4 = 19
    · by_cases he : t.rngSeed = s.rngSeed
      · rw [h19]
        change BitVec.extractLsb' (8 * (a % 4)) 8 t.rngSeed = BitVec.extractLsb' (8 * (a % 4)) 8 s.rngSeed
        rw [he]
      · exact absurd (hs he a (by unfold seedBytes; omega)) hP
    · rw [h.window_eq _ (by omega) hn h19]

end Sys2Proof.Machine
end

