-- ==== Sys2Proof/Laws/Effects.lean ====
section
/-! SUPPORT. What a meaning that writes one register, a register and the seed, or a result group does as a
whole: the value it leaves and the bytes of the window it keeps. -/

namespace Sys2Proof.Machine

open Sys2Proof.Safety

theorem agreesOffRegs_setReg (s : State) (d : Reg) (w : Word) : AgreesOffRegs s (s.setReg d w) := by
  constructor <;> rfl

theorem agreesOffRegs_setV2 (s : State) (d : Reg) (v : V2) : AgreesOffRegs s (s.setV2 d v) := by
  constructor <;> rfl

theorem agreesOffRegs_setV3 (s : State) (d : Reg) (v : V3) : AgreesOffRegs s (s.setV3 d v) := by
  constructor <;> rfl

theorem agreesOffRegs_setProjection (s : State) (d : Reg) (p : ProjectionResult) :
    AgreesOffRegs s (s.setProjection d p) := by
  constructor <;> rfl

theorem agreesOffRegs_setRandom (s : State) (d : Reg) (w : Word) : AgreesOffRegs s (s.setRandom d w) := by
  constructor <;> rfl

/-- A command whose groups fit answers the state its meaning gives (10_state.md R20). -/
theorem guarded_of_fit {i : Instr} (h : i.groupsFit = true) (s t : State) : guarded i s t = .next t := by
  simp [guarded, h]

/-- A write of one register changes the four bytes of that register alone. -/
theorem unchangedOutside_setReg (s : State) (d : Reg) (w : Word) :
    UnchangedOutside (regBytes d 1) s (s.setReg d w) := by
  refine (agreesOffRegs_setReg s d w).unchangedOutside _ ?_ (fun h => absurd rfl h)
  intro q hq j hj
  have : q = d := by_contra fun hn => hq (State.reg_setReg_ne _ _ _ _ hn)
  subst this
  unfold regBytes
  omega

theorem writes1_of_setReg {i : Instr} {s : State} {d : Reg} {w : Word}
    (h : exec i s = .next (s.setReg d w)) : Writes1 i s d w :=
  ⟨_, h, State.reg_setReg_same s d w, unchangedOutside_setReg s d w⟩

/-- A random command changes its destination register and RNG_SEED alone. -/
theorem writesSeed_of_setRandom {i : Instr} {s : State} {d : Reg} {w : Word}
    (h : exec i s = .next (s.setRandom d w)) : WritesSeed i s d w (rngNext s.cfg s.rngSeed) := by
  refine ⟨_, h, State.reg_setReg_same s d w, rfl,
    (agreesOffRegs_setRandom s d w).unchangedOutside _ ?_ (fun _ a ha => .inr ha)⟩
  intro q hq j hj
  have : q = d := by_contra fun hn => hq (State.reg_setReg_ne _ _ _ _ hn)
  subst this
  left
  unfold regBytes
  omega

theorem reg_ne {a b : Reg} (h : a.val ≠ b.val) : a ≠ b := fun e => h (congrArg Fin.val e)

theorem writes2_of_setV2 {i : Instr} {s : State} {d : Reg} {v : V2} (h : exec i s = .next (s.setV2 d v))
    (hf : groupFits d 2 = true) : Writes2 i s d v.x v.y := by
  rw [groupFits_iff] at hf
  have v1 := groupReg_val d 1 (by omega)
  have n1 : d ≠ groupReg d 1 := reg_ne (by omega)
  refine ⟨_, h, by simp [State.reg_setV2, n1], by simp [State.reg_setV2],
    (agreesOffRegs_setV2 s d v).unchangedOutside _ ?_ (fun h => absurd rfl h)⟩
  intro q hq j hj
  rw [State.reg_setV2] at hq
  unfold regBytes
  split_ifs at hq with h1 h2
  · subst h1; omega
  · subst h2; omega
  · exact absurd rfl hq

theorem writes3_of_setV3 {i : Instr} {s : State} {d : Reg} {v : V3} (h : exec i s = .next (s.setV3 d v))
    (hf : groupFits d 3 = true) : Writes3 i s d v.x v.y v.z := by
  rw [groupFits_iff] at hf
  have v1 := groupReg_val d 1 (by omega)
  have v2 := groupReg_val d 2 (by omega)
  have n1 : d ≠ groupReg d 1 := reg_ne (by omega)
  have n2 : d ≠ groupReg d 2 := reg_ne (by omega)
  have n3 : groupReg d 1 ≠ groupReg d 2 := reg_ne (by omega)
  refine ⟨_, h, by simp [State.reg_setV3, n1, n2], by simp [State.reg_setV3, n3], by simp [State.reg_setV3],
    (agreesOffRegs_setV3 s d v).unchangedOutside _ ?_ (fun h => absurd rfl h)⟩
  intro q hq j hj
  rw [State.reg_setV3] at hq
  unfold regBytes
  split_ifs at hq with h1 h2 h3
  · subst h1; omega
  · subst h2; omega
  · subst h3; omega
  · exact absurd rfl hq

theorem writes4_of_setProjection {i : Instr} {s : State} {d : Reg} {p : ProjectionResult}
    (h : exec i s = .next (s.setProjection d p)) (hf : groupFits d 4 = true) :
    Writes4 i s d (wrap32 p.screenX) (wrap32 p.screenY) (wrap32 p.scale) (boolWord p.visible) := by
  rw [groupFits_iff] at hf
  have v1 := groupReg_val d 1 (by omega)
  have v2 := groupReg_val d 2 (by omega)
  have v3 := groupReg_val d 3 (by omega)
  have n1 : d ≠ groupReg d 1 := reg_ne (by omega)
  have n2 : d ≠ groupReg d 2 := reg_ne (by omega)
  have n3 : d ≠ groupReg d 3 := reg_ne (by omega)
  have n4 : groupReg d 1 ≠ groupReg d 2 := reg_ne (by omega)
  have n5 : groupReg d 1 ≠ groupReg d 3 := reg_ne (by omega)
  have n6 : groupReg d 2 ≠ groupReg d 3 := reg_ne (by omega)
  refine ⟨_, h, by simp [State.reg_setProjection, n1, n2, n3], by simp [State.reg_setProjection, n4, n5],
    by simp [State.reg_setProjection, n6], by simp [State.reg_setProjection],
    (agreesOffRegs_setProjection s d p).unchangedOutside _ ?_ (fun h => absurd rfl h)⟩
  intro q hq j hj
  rw [State.reg_setProjection] at hq
  unfold regBytes
  split_ifs at hq with h1 h2 h3 h4
  · subst h1; omega
  · subst h2; omega
  · subst h3; omega
  · subst h4; omega
  · exact absurd rfl hq

end Sys2Proof.Machine
end

