-- ==== Sys2Proof/Laws/Step.lean ====
section
/-! SUPPORT. What one step can be, said once. -/

namespace Sys2Proof.Machine

/-- Everything a command word can do: run its command, or be recorded as illegal. -/
theorem runCommand_cases (w : Word) (s : State) :
    (∃ i, decode w = .ok i ∧ runCommand w s = exec i s) ∨
      ∃ c, decode w = .error c ∧ runCommand w s = .next (takeIllegal c w s) := by
  cases h : decode w with
  | ok i => exact .inl ⟨i, rfl, by simp [runCommand, h]⟩
  | error c => exact .inr ⟨c, rfl, by simp [runCommand, h]⟩

/-- CMD stands at word offset 0x10 and nowhere else (10_state.md R23). -/
theorem windowReg_eq_cmd (off : Offset) : windowReg off = .cmd ↔ off = cmdOffset := by
  revert off; decide

/-- Everything an access can do: a read, a command, or a write of another word. -/
theorem performAccess_cases (a : Access) (s : State) :
    (∃ off, a = .read off ∧ performAccess a s = .next { s with resp := .data (s.window off) }) ∨
    (∃ w, a = .write cmdOffset w ∧ performAccess a s = runCommand w { s with resp := .written }) ∨
    ∃ off w, a = .write off w ∧ off ≠ cmdOffset ∧
      performAccess a s = .next (writeReg w (windowReg off) { s with resp := .written }) := by
  cases a with
  | read off => exact .inl ⟨off, rfl, rfl⟩
  | write off w =>
    by_cases h : off = cmdOffset
    · subst h; exact .inr (.inl ⟨w, rfl, rfl⟩)
    · refine .inr (.inr ⟨off, w, rfl, h, ?_⟩)
      have hc : windowReg off ≠ .cmd := fun e => h ((windowReg_eq_cmd off).mp e)
      simp only [performAccess]

/-- Everything a step can be: idle, an access, or a reset. -/
theorem step_cases (s : State) :
    (s.host = [] ∧ step s = .next { s with resp := .idle }) ∨
    (∃ a rest, s.host = .access a :: rest ∧ step s = performAccess a { s with host := rest }) ∨
    ∃ p rest, s.host = .rst p :: rest ∧
      step s = .next { State.resetWith s.cfg with host := rest } := by
  rcases h : s.host with _ | ⟨_ | _, rest⟩
  · exact .inl ⟨rfl, by simp [step, h]⟩
  · exact .inr (.inl ⟨_, rest, rfl, by simp [step, h, performEvent]⟩)
  · exact .inr (.inr ⟨_, rest, rfl, by simp [step, h, performEvent]⟩)

end Sys2Proof.Machine
end

