-- ==== Sys2Proof/Laws/Vector.lean ====
section
/-! SUPPORT. The vector, generator and screen helpers as word arithmetic: what each one answers, said once. -/

namespace Sys2Proof.Machine

open Sys2Proof.Safety

/-- Narrowing keeps a value that 32 bits hold. -/
theorem toInt_wrap32 (v : Int) (h : -2147483648 ≤ v) (h' : v < 2147483648) : (wrap32 v).toInt = v := by
  rw [wrap32, BitVec.toInt_ofInt]
  exact Int.bmod_eq_of_le_mul_two (by norm_num; omega) (by norm_num; omega)

theorem floorF_sv (w : Word) : floorF (sv w) = w.toInt / 65536 := by
  rw [floorF, sar_eq]; rfl

theorem wrap32_floorF_sv (w : Word) : wrap32 (floorF (sv w)) = w.sshiftRight 16 := by
  have : floorF (sv w) = (w.sshiftRight 16).toInt := by rw [BitVec.toInt_sshiftRight]; rfl
  rw [this]; exact wrap32_sv _

theorem canonicalAngle_sv (w : Word) : canonicalAngle (sv w) = w.toNat % 256 := by
  unfold canonicalAngle sv
  rw [BitVec.toInt_eq_toNat_cond]
  have := w.isLt
  split <;> omega

/-- The generator's output is the upper half of the new seed (45_random.md R130). -/
theorem rngHi_eq (s : State) :
    s.rngHi = (((s.cfg.rngA * s.rngSeed + s.cfg.rngC).toNat / 65536 : Nat) : Int) := by
  simp [State.rngHi, rngOut, rngNext, rngShift, Nat.shiftRight_eq_div_pow]

theorem dot2_eq (a b : V2) : dot2 a b = dotVia64 a b := by
  simp only [dot2, dotVia64, mulF_sv, addF_sv]

theorem dot3_eq (a b : V3) : dot3 a b = dot3Via64 a b := by
  simp only [dot3, dot3Via64, mulF_sv, addF_sv]

theorem cross3_eq (a b : V3) : cross3 a b =
    ⟨mulVia64 a.y b.z - mulVia64 a.z b.y, mulVia64 a.z b.x - mulVia64 a.x b.z,
      mulVia64 a.x b.y - mulVia64 a.y b.x⟩ := by
  simp only [cross3, mulF_sv, subF_sv]

theorem mulVia64_comm (a b : Word) : mulVia64 a b = mulVia64 b a := by
  unfold mulVia64; rw [BitVec.mul_comm]

theorem len2_isFixRoot (a : V2) : IsFixRoot (dotVia64 a a) (len2 a) := by
  rw [len2, lensq2, dot2_eq]; exact fsqrtF_isFixRoot _

theorem len3_isFixRoot (a : V3) : IsFixRoot (dot3Via64 a a) (len3 a) := by
  rw [len3, lensq3, dot3_eq]; exact fsqrtF_isFixRoot _

theorem norm2_isNorm2 (a : V2) : IsNorm2 a (norm2 a) := by
  refine ⟨_, len2_isFixRoot a, ?_⟩
  unfold norm2
  by_cases h : len2 a = 0#32
  · rw [if_pos h, if_pos (by rw [h]; rfl)]
  · rw [if_neg h, if_neg (fun e => h ((sv_eq_zero_iff _).mp e))]
    exact ⟨divF_isFixQuot _ _, divF_isFixQuot _ _⟩

theorem norm3_isNorm3 (a : V3) : IsNorm3 a (norm3 a) := by
  refine ⟨_, len3_isFixRoot a, ?_⟩
  unfold norm3
  by_cases h : len3 a = 0#32
  · rw [if_pos h, if_pos (by rw [h]; rfl)]
  · rw [if_neg h, if_neg (fun e => h ((sv_eq_zero_iff _).mp e))]
    exact ⟨divF_isFixQuot _ _, divF_isFixQuot _ _, divF_isFixQuot _ _⟩

/-- Everything `screenF` can answer: the screen point inside the widened viewport, the invisible result
outside it (44_projection.md R121). -/
theorem screenF_cases (s : State) (px py sc : Word) :
    (onScreen s (screenPoint s px py sc) → screenF s (sv px) (sv py) (sv sc) =
      ⟨(screenPoint s px py sc).1, (screenPoint s px py sc).2, sv sc, true⟩) ∧
    (¬onScreen s (screenPoint s px py sc) → screenF s (sv px) (sv py) (sv sc) = invisible) := by
  unfold screenF
  simp only [mulF_sv, floorF_sv, sar_eq, onScreen, screenPoint, margin]
  push_cast
  constructor <;> intro h
  · rw [if_pos]
    simpa using h
  · rw [if_neg]
    simpa using h

end Sys2Proof.Machine
end

