-- ==== Sys2Proof/Tests/Slice0.lean ====
section
/-! SUPPORT. Tests. Expected results are the spec's own: the vectors of 95_test_vectors.md, the words of
30_encoding.md R56 and words written out from the encoding of R48. -/

namespace Sys2Proof.Tests

open Sys2Proof.Machine

/-- The machine right after reset with some general registers written by the host. -/
def withRegs (rs : List (Reg × Word)) : State := rs.foldl (fun s p => s.setReg p.1 p.2) State.reset

/-- The registers of the group of `k` at `r` after an outcome; none if it is no next state. -/
def group (o : Host.Outcome State Fault Refusal) (r k : Nat) : List (Option Word) :=
  match o with
  | .next t => (List.range k).map (fun j => t.regs[r + j]?)
  | _ => []

/-- The seed after an outcome. -/
def seedOf (o : Host.Outcome State Fault Refusal) : Option Word :=
  match o with
  | .next t => some t.rngSeed
  | _ => none

/-- What the host sees after an outcome: the response, STATUS and ERRCMD. -/
def hostView (o : Host.Outcome State Fault Refusal) : Option (Response × Word × Word) :=
  match o with
  | .next t => some (t.resp, t.statusWord, t.errcmd)
  | _ => none

/-! ## Well-formedness: an ill-formed term for each group, refused -/

theorem test_wf_result_group_of_2 : Instr.wellFormed (.vadd2 15 0 0) = false := by decide
theorem test_wf_source_group_of_2 : Instr.wellFormed (.vdot2 0 0 15) = false := by decide
theorem test_wf_result_group_of_3 : Instr.wellFormed (.vadd3 14 0 0) = false := by decide
theorem test_wf_source_group_of_3 : Instr.wellFormed (.cmpdepth 0 14 0) = false := by decide
theorem test_wf_result_group_of_4 : Instr.wellFormed (.proj 13 0) = false := by decide
theorem test_wf_group_ends_at_r15 : Instr.wellFormed (.proj 12 13) = true := by decide

/-! ## Decoding: 30_encoding.md R56, 95_test_vectors.md, and words written out bit by bit -/

theorem test_decode_fadd : decode 0x08C48000#32 = .ok (.fadd 3 1 2) := by decide
theorem test_decode_fclamp : decode 0x29048C00#32 = .ok (.fclamp 4 1 2 3) := by decide
theorem test_decode_sin : decode 0x41580000#32 = .ok (.sin 5 6) := by decide
theorem test_decode_vcross3 : decode 0xB180C000#32 = .ok (.vcross3 6 0 3) := by decide
theorem test_decode_projs : decode 0xE700C000#32 = .ok (.projs 12 0 3) := by decide
theorem test_decode_rbool : decode 0x68400000#32 = .ok (.rbool 1) := by decide
theorem test_decode_isqrt_bits :
    decode 0b001110_1010_0101_0000_0000_0000000000#32 = .ok (.isqrt 10 5) := by decide
theorem test_decode_undef_first : decode 0x00000001#32 = .error .undefOp := by decide
theorem test_decode_rsv_before_unused : decode 0x08C48401#32 = .error .rsvBits := by decide
theorem test_decode_unused : decode 0x68440000#32 = .error .unusedField := by decide
theorem test_decode_source_range : decode 0xAFF80000#32 = .error .groupRange := by decide
theorem test_decode_group_at_r15 : decode 0xABF80000#32 = .ok (.vdot2 15 14 0) := by decide

/-! Every row of the opcode map, its word written out as op_rd_rs1_rs2_rs3_zero (30_encoding.md R48, R52) -/

theorem test_word_fromint :
    decode 0b000001_1001_0100_0000_0000_0000000000#32 = .ok (.fromint 9 4) := by decide
theorem test_word_fadd :
    decode 0b000010_1001_0100_0111_0000_0000000000#32 = .ok (.fadd 9 4 7) := by decide
theorem test_word_fsub :
    decode 0b000011_1001_0100_0111_0000_0000000000#32 = .ok (.fsub 9 4 7) := by decide
theorem test_word_fmul :
    decode 0b000100_1001_0100_0111_0000_0000000000#32 = .ok (.fmul 9 4 7) := by decide
theorem test_word_fdiv :
    decode 0b000101_1001_0100_0111_0000_0000000000#32 = .ok (.fdiv 9 4 7) := by decide
theorem test_word_fround :
    decode 0b000110_1001_0100_0000_0000_0000000000#32 = .ok (.fround 9 4) := by decide
theorem test_word_ffloor :
    decode 0b000111_1001_0100_0000_0000_0000000000#32 = .ok (.ffloor 9 4) := by decide
theorem test_word_fceil :
    decode 0b001000_1001_0100_0000_0000_0000000000#32 = .ok (.fceil 9 4) := by decide
theorem test_word_ffrac :
    decode 0b001001_1001_0100_0000_0000_0000000000#32 = .ok (.ffrac 9 4) := by decide
theorem test_word_fclamp :
    decode 0b001010_1001_0100_0111_1100_0000000000#32 = .ok (.fclamp 9 4 7 12) := by decide
theorem test_word_flerp :
    decode 0b001011_1001_0100_0111_1100_0000000000#32 = .ok (.flerp 9 4 7 12) := by decide
theorem test_word_fcmp :
    decode 0b001100_1001_0100_0111_0000_0000000000#32 = .ok (.fcmp 9 4 7) := by decide
theorem test_word_fsqrt :
    decode 0b001101_1001_0100_0000_0000_0000000000#32 = .ok (.fsqrt 9 4) := by decide
theorem test_word_isqrt :
    decode 0b001110_1001_0100_0000_0000_0000000000#32 = .ok (.isqrt 9 4) := by decide
theorem test_word_sin :
    decode 0b010000_1001_0100_0000_0000_0000000000#32 = .ok (.sin 9 4) := by decide
theorem test_word_cos :
    decode 0b010001_1001_0100_0000_0000_0000000000#32 = .ok (.cos 9 4) := by decide
theorem test_word_tan :
    decode 0b010010_1001_0100_0000_0000_0000000000#32 = .ok (.tan 9 4) := by decide
theorem test_word_atan2 :
    decode 0b010011_1001_0100_0111_0000_0000000000#32 = .ok (.atan2 9 4 7) := by decide
theorem test_word_deg2ang :
    decode 0b010100_1001_0100_0000_0000_0000000000#32 = .ok (.deg2ang 9 4) := by decide
theorem test_word_ang2deg :
    decode 0b010101_1001_0100_0000_0000_0000000000#32 = .ok (.ang2deg 9 4) := by decide
theorem test_word_rad2ang :
    decode 0b010110_1001_0100_0000_0000_0000000000#32 = .ok (.rad2ang 9 4) := by decide
theorem test_word_ang2rad :
    decode 0b010111_1001_0100_0000_0000_0000000000#32 = .ok (.ang2rad 9 4) := by decide
theorem test_word_rint :
    decode 0b011000_1001_0100_0000_0000_0000000000#32 = .ok (.rint 9 4) := by decide
theorem test_word_rrange :
    decode 0b011001_1001_0100_0111_0000_0000000000#32 = .ok (.rrange 9 4 7) := by decide
theorem test_word_rbool :
    decode 0b011010_1001_0000_0000_0000_0000000000#32 = .ok (.rbool 9) := by decide
theorem test_word_rfix :
    decode 0b011011_1001_0000_0000_0000_0000000000#32 = .ok (.rfix 9) := by decide
theorem test_word_vadd2 :
    decode 0b100000_1001_0100_0111_0000_0000000000#32 = .ok (.vadd2 9 4 7) := by decide
theorem test_word_vadd3 :
    decode 0b100001_1001_0100_0111_0000_0000000000#32 = .ok (.vadd3 9 4 7) := by decide
theorem test_word_vsub2 :
    decode 0b100010_1001_0100_0111_0000_0000000000#32 = .ok (.vsub2 9 4 7) := by decide
theorem test_word_vsub3 :
    decode 0b100011_1001_0100_0111_0000_0000000000#32 = .ok (.vsub3 9 4 7) := by decide
theorem test_word_vscale2 :
    decode 0b100100_1001_0100_0111_0000_0000000000#32 = .ok (.vscale2 9 4 7) := by decide
theorem test_word_vscale3 :
    decode 0b100101_1001_0100_0111_0000_0000000000#32 = .ok (.vscale3 9 4 7) := by decide
theorem test_word_vdivs2 :
    decode 0b100110_1001_0100_0111_0000_0000000000#32 = .ok (.vdivs2 9 4 7) := by decide
theorem test_word_vdivs3 :
    decode 0b100111_1001_0100_0111_0000_0000000000#32 = .ok (.vdivs3 9 4 7) := by decide
theorem test_word_vneg2 :
    decode 0b101000_1001_0100_0000_0000_0000000000#32 = .ok (.vneg2 9 4) := by decide
theorem test_word_vneg3 :
    decode 0b101001_1001_0100_0000_0000_0000000000#32 = .ok (.vneg3 9 4) := by decide
theorem test_word_vdot2 :
    decode 0b101010_1001_0100_0111_0000_0000000000#32 = .ok (.vdot2 9 4 7) := by decide
theorem test_word_vdot3 :
    decode 0b101011_1001_0100_0111_0000_0000000000#32 = .ok (.vdot3 9 4 7) := by decide
theorem test_word_vcross3 :
    decode 0b101100_1001_0100_0111_0000_0000000000#32 = .ok (.vcross3 9 4 7) := by decide
theorem test_word_veq2 :
    decode 0b101101_1001_0100_0111_0000_0000000000#32 = .ok (.veq2 9 4 7) := by decide
theorem test_word_veq3 :
    decode 0b101110_1001_0100_0111_0000_0000000000#32 = .ok (.veq3 9 4 7) := by decide
theorem test_word_vlensq2 :
    decode 0b110000_1001_0100_0000_0000_0000000000#32 = .ok (.vlensq2 9 4) := by decide
theorem test_word_vlensq3 :
    decode 0b110001_1001_0100_0000_0000_0000000000#32 = .ok (.vlensq3 9 4) := by decide
theorem test_word_vlen2 :
    decode 0b110010_1001_0100_0000_0000_0000000000#32 = .ok (.vlen2 9 4) := by decide
theorem test_word_vlen3 :
    decode 0b110011_1001_0100_0000_0000_0000000000#32 = .ok (.vlen3 9 4) := by decide
theorem test_word_vnorm2 :
    decode 0b110100_1001_0100_0000_0000_0000000000#32 = .ok (.vnorm2 9 4) := by decide
theorem test_word_vnorm3 :
    decode 0b110101_1001_0100_0000_0000_0000000000#32 = .ok (.vnorm3 9 4) := by decide
theorem test_word_vdist2 :
    decode 0b110110_1001_0100_0111_0000_0000000000#32 = .ok (.vdist2 9 4 7) := by decide
theorem test_word_vdist3 :
    decode 0b110111_1001_0100_0111_0000_0000000000#32 = .ok (.vdist3 9 4 7) := by decide
theorem test_word_proj :
    decode 0b111000_1011_0100_0000_0000_0000000000#32 = .ok (.proj 11 4) := by decide
theorem test_word_projs :
    decode 0b111001_1011_0100_0111_0000_0000000000#32 = .ok (.projs 11 4 7) := by decide
theorem test_word_sprscale :
    decode 0b111010_1001_0100_0111_1100_0000000000#32 = .ok (.sprscale 9 4 7 12) := by decide
theorem test_word_cmpdepth :
    decode 0b111011_1001_0100_0111_0000_0000000000#32 = .ok (.cmpdepth 9 4 7) := by decide

/-! ## One command each, on the vectors of 95_test_vectors.md -/

theorem test_fromint_wraps :
    group (exec (.fromint 3 1) (withRegs [(1, 0x00008000)])) 3 1
      = [some 0x80000000] := by decide
theorem test_fromint_in_place :
    group (exec (.fromint 1 1) (withRegs [(1, 0xFFFFFFFF)])) 1 1
      = [some 0xFFFF0000] := by decide
theorem test_fadd_wraps :
    group (exec (.fadd 3 1 2) (withRegs [(1, 0x7FFFFFFF), (2, 0x00000001)])) 3 1
      = [some 0x80000000] := by decide
theorem test_fadd_sum :
    group (exec (.fadd 3 1 2) (withRegs [(1, 0x00018000), (2, 0x00024000)])) 3 1
      = [some 0x0003C000] := by decide
theorem test_fsub_wraps :
    group (exec (.fsub 3 1 2) (withRegs [(1, 0x80000000), (2, 0x00000001)])) 3 1
      = [some 0x7FFFFFFF] := by decide
theorem test_fsub_difference :
    group (exec (.fsub 3 1 2) (withRegs [(1, 0x00010000), (2, 0x00028000)])) 3 1
      = [some 0xFFFE8000] := by decide
theorem test_fmul_floors :
    group (exec (.fmul 3 1 2) (withRegs [(1, 0xFFFFFFFF), (2, 0x00000001)])) 3 1
      = [some 0xFFFFFFFF] := by decide
theorem test_fmul_negative_product :
    group (exec (.fmul 3 1 2) (withRegs [(1, 0x00018000), (2, 0xFFFDC000)])) 3 1
      = [some 0xFFFCA000] := by decide
theorem test_fdiv_truncates :
    group (exec (.fdiv 3 1 2) (withRegs [(1, 0xFFFF0000), (2, 0x00030000)])) 3 1
      = [some 0xFFFFAAAB] := by decide
theorem test_fdiv_by_zero :
    group (exec (.fdiv 3 1 2) (withRegs [(1, 0x00070000), (2, 0x00000000)])) 3 1
      = [some 0x00000000] := by decide
theorem test_fround_half_up :
    group (exec (.fround 3 1) (withRegs [(1, 0xFFFE8000)])) 3 1
      = [some 0xFFFFFFFF] := by decide
theorem test_fround_top :
    group (exec (.fround 3 1) (withRegs [(1, 0x7FFFFFFF)])) 3 1
      = [some 0x00008000] := by decide
theorem test_ffloor_negative :
    group (exec (.ffloor 3 1) (withRegs [(1, 0xFFFE8000)])) 3 1
      = [some 0xFFFFFFFE] := by decide
theorem test_ffloor_top :
    group (exec (.ffloor 3 1) (withRegs [(1, 0x7FFFFFFF)])) 3 1
      = [some 0x00007FFF] := by decide
theorem test_fceil_fraction :
    group (exec (.fceil 3 1) (withRegs [(1, 0x00017FFF)])) 3 1
      = [some 0x00000002] := by decide
theorem test_fceil_minus_one :
    group (exec (.fceil 3 1) (withRegs [(1, 0xFFFF0000)])) 3 1
      = [some 0xFFFFFFFF] := by decide
theorem test_ffrac_negative :
    group (exec (.ffrac 3 1) (withRegs [(1, 0xFFFFFFFF)])) 3 1
      = [some 0x0000FFFF] := by decide
theorem test_ffrac_half :
    group (exec (.ffrac 3 1) (withRegs [(1, 0x00028000)])) 3 1
      = [some 0x00008000] := by decide
theorem test_fclamp_signed :
    group (exec (.fclamp 4 1 2 3) (withRegs [(1, 0xFFFFFFFF), (2, 0x00000000), (3, 0x7FFFFFFF)])) 4 1
      = [some 0x00000000] := by decide
theorem test_fclamp_empty_range :
    group (exec (.fclamp 4 1 2 3) (withRegs [(1, 0x00050000), (2, 0x00030000), (3, 0x00010000)])) 4 1
      = [some 0x00010000] := by decide
theorem test_flerp_quarter :
    group (exec (.flerp 4 1 2 3) (withRegs [(1, 0x000A0000), (2, 0x00000000), (3, 0x00004000)])) 4 1
      = [some 0x00078000] := by decide
theorem test_flerp_extrapolates :
    group (exec (.flerp 4 1 2 3) (withRegs [(1, 0xFFFB0000), (2, 0x00050000), (3, 0x00018000)])) 4 1
      = [some 0x000A0000] := by decide
theorem test_fcmp_signed :
    group (exec (.fcmp 3 1 2) (withRegs [(1, 0x80000000), (2, 0x7FFFFFFF)])) 3 1
      = [some 0xFFFFFFFF] := by decide
theorem test_fcmp_above :
    group (exec (.fcmp 3 1 2) (withRegs [(1, 0x00020000), (2, 0x00010000)])) 3 1
      = [some 0x00000001] := by decide
theorem test_fsqrt_two :
    group (exec (.fsqrt 3 1) (withRegs [(1, 0x00020000)])) 3 1
      = [some 0x00016A09] := by decide
theorem test_fsqrt_one_lsb :
    group (exec (.fsqrt 3 1) (withRegs [(1, 0x00000001)])) 3 1
      = [some 0x0000014F] := by decide
theorem test_isqrt_one :
    group (exec (.isqrt 3 1) (withRegs [(1, 1)])) 3 1
      = [some 0] := by decide
theorem test_isqrt_31323 :
    group (exec (.isqrt 3 1) (withRegs [(1, 31323)])) 3 1
      = [some 178] := by decide
theorem test_sin_129 :
    group (exec (.sin 3 1) (withRegs [(1, 129)])) 3 1
      = [some 0xFFFFF9B8] := by decide
theorem test_sin_300 :
    group (exec (.sin 3 1) (withRegs [(1, 300)])) 3 1
      = [some 0x0000E1C6] := by decide
theorem test_cos_96 :
    group (exec (.cos 3 1) (withRegs [(1, 96)])) 3 1
      = [some 0xFFFF4AFB] := by decide
theorem test_cos_minus_64 :
    group (exec (.cos 3 1) (withRegs [(1, 0xFFFFFFC0)])) 3 1
      = [some 0x00000000] := by decide
theorem test_tan_pole :
    group (exec (.tan 3 1) (withRegs [(1, 192)])) 3 1
      = [some 0x7FFFFFFF] := by decide
theorem test_tan_65 :
    group (exec (.tan 3 1) (withRegs [(1, 65)])) 3 1
      = [some 0xFFD74198] := by decide
theorem test_atan2_third_octant :
    group (exec (.atan2 3 1 2) (withRegs [(1, 0xFFFD0000), (2, 0x00040000)])) 3 1
      = [some 0x000000E6] := by decide
theorem test_atan2_extremes :
    group (exec (.atan2 3 1 2) (withRegs [(1, 0x7FFFFFFF), (2, 0x80000000)])) 3 1
      = [some 0x00000060] := by decide
theorem test_deg2ang_minus_90 :
    group (exec (.deg2ang 3 1) (withRegs [(1, 0xFFA60000)])) 3 1
      = [some 0xFFFFFFC0] := by decide
theorem test_deg2ang_90 :
    group (exec (.deg2ang 3 1) (withRegs [(1, 0x005A0000)])) 3 1
      = [some 0x0000003F] := by decide
theorem test_ang2deg_minus_64 :
    group (exec (.ang2deg 3 1) (withRegs [(1, 0xFFFFFFC0)])) 3 1
      = [some 0xFFA5FFD1] := by decide
theorem test_ang2deg_256 :
    group (exec (.ang2deg 3 1) (withRegs [(1, 256)])) 3 1
      = [some 0x016800BF] := by decide
theorem test_rad2ang_minus_pi :
    group (exec (.rad2ang 3 1) (withRegs [(1, 0xFFFCDBC1)])) 3 1
      = [some 0xFFFFFF7F] := by decide
theorem test_rad2ang_one :
    group (exec (.rad2ang 3 1) (withRegs [(1, 0x00010000)])) 3 1
      = [some 0x00000028] := by decide
theorem test_ang2rad_minus_128 :
    group (exec (.ang2rad 3 1) (withRegs [(1, 0xFFFFFF80)])) 3 1
      = [some 0xFFFCDC00] := by decide
theorem test_ang2rad_one :
    group (exec (.ang2rad 3 1) (withRegs [(1, 1)])) 3 1
      = [some 0x00000648] := by decide
theorem test_rint_mod_six :
    (group (exec (.rint 0 1) { withRegs [(1, 6)] with rngSeed := 0x00003039 }) 0 1, seedOf (exec (.rint 0 1) { withRegs [(1, 6)] with rngSeed := 0x00003039 }))
      = ([some 0x00000005], some 0x05391C44) := by decide
theorem test_rint_zero_advances :
    (group (exec (.rint 1 1) { withRegs [(1, 0)] with rngSeed := 0x00000000 }) 1 1, seedOf (exec (.rint 1 1) { withRegs [(1, 0)] with rngSeed := 0x00000000 }))
      = ([some 0x00000000], some 0x3C6EF35F) := by decide
theorem test_rrange_negative_lo :
    (group (exec (.rrange 4 1 2) { withRegs [(1, 0xFFFFFFFB), (2, 5)] with rngSeed := 0x3C6EF35F }) 4 1, seedOf (exec (.rrange 4 1 2) { withRegs [(1, 0xFFFFFFFB), (2, 5)] with rngSeed := 0x3C6EF35F }))
      = ([some 0x00000001], some 0x47502932) := by decide
theorem test_rrange_full_span :
    (group (exec (.rrange 4 1 2) { withRegs [(1, 0x80000000), (2, 0x7FFFFFFF)] with rngSeed := 0x00000000 }) 4 1, seedOf (exec (.rrange 4 1 2) { withRegs [(1, 0x80000000), (2, 0x7FFFFFFF)] with rngSeed := 0x00000000 }))
      = ([some 0x80003C6E], some 0x3C6EF35F) := by decide
theorem test_rbool_true :
    (group (exec (.rbool 5) { withRegs [] with rngSeed := 0xD1CCF6E9 }) 5 1, seedOf (exec (.rbool 5) { withRegs [] with rngSeed := 0xD1CCF6E9 }))
      = ([some 0x00000001], some 0xAAF95334) := by decide
theorem test_rbool_false :
    (group (exec (.rbool 5) { withRegs [] with rngSeed := 0x00000000 }) 5 1, seedOf (exec (.rbool 5) { withRegs [] with rngSeed := 0x00000000 }))
      = ([some 0x00000000], some 0x3C6EF35F) := by decide
theorem test_rfix_top_seed :
    (group (exec (.rfix 6) { withRegs [] with rngSeed := 0xFFFFFFFF }) 6 1, seedOf (exec (.rfix 6) { withRegs [] with rngSeed := 0xFFFFFFFF }))
      = ([some 0x00003C55], some 0x3C558D52) := by decide
theorem test_rfix_second :
    (group (exec (.rfix 6) { withRegs [] with rngSeed := 0x3C6EF35F }) 6 1, seedOf (exec (.rfix 6) { withRegs [] with rngSeed := 0x3C6EF35F }))
      = ([some 0x00004750], some 0x47502932) := by decide
theorem test_vadd2 :
    group (exec (.vadd2 8 0 4) (withRegs [(0, 0x00010000), (1, 0x00020000), (4, 0x00040000), (5, 0xFFFB0000)])) 8 2
      = [some 0x00050000, some 0xFFFD0000] := by decide
theorem test_vadd2_overlap :
    group (exec (.vadd2 1 0 1) (withRegs [(0, 1), (1, 2), (2, 4)])) 1 2
      = [some 3, some 6] := by decide
theorem test_vadd3 :
    group (exec (.vadd3 13 0 4) (withRegs [(0, 0x00010000), (1, 0x00020000), (2, 0x00030000), (4, 0x00040000), (5, 0xFFFB0000), (6, 0x00060000)])) 13 3
      = [some 0x00050000, some 0xFFFD0000, some 0x00090000] := by decide
theorem test_vadd3_in_place :
    group (exec (.vadd3 0 0 0) (withRegs [(0, 0x00010000), (1, 0x00020000), (2, 0x00030000)])) 0 3
      = [some 0x00020000, some 0x00040000, some 0x00060000] := by decide
theorem test_vsub2 :
    group (exec (.vsub2 8 0 4) (withRegs [(0, 0x00010000), (1, 0x00020000), (4, 0x00040000), (5, 0xFFFB0000)])) 8 2
      = [some 0xFFFD0000, some 0x00070000] := by decide
theorem test_vsub3 :
    group (exec (.vsub3 8 0 4) (withRegs [(0, 0x00010000), (1, 0x00020000), (2, 0x00030000), (4, 0x00040000), (5, 0xFFFB0000), (6, 0x00060000)])) 8 3
      = [some 0xFFFD0000, some 0x00070000, some 0xFFFD0000] := by decide
theorem test_vscale2 :
    group (exec (.vscale2 8 0 4) (withRegs [(0, 0x00010000), (1, 0x00020000), (4, 0x00008000)])) 8 2
      = [some 0x00008000, some 0x00010000] := by decide
theorem test_vscale2_scalar_is_component :
    group (exec (.vscale2 0 0 1) (withRegs [(0, 0x00010000), (1, 0x00018000)])) 0 2
      = [some 0x00018000, some 0x00024000] := by decide
theorem test_vscale3_floors :
    group (exec (.vscale3 8 0 4) (withRegs [(0, 0xFFFFFFFF), (1, 1), (2, 0), (4, 0x00008000)])) 8 3
      = [some 0xFFFFFFFF, some 0, some 0] := by decide
theorem test_vscale3 :
    group (exec (.vscale3 8 0 4) (withRegs [(0, 0x00010000), (1, 0x00020000), (2, 0x00030000), (4, 0xFFFE0000)])) 8 3
      = [some 0xFFFE0000, some 0xFFFC0000, some 0xFFFA0000] := by decide
theorem test_vdivs2 :
    group (exec (.vdivs2 8 0 4) (withRegs [(0, 0x00010000), (1, 0x00020000), (4, 0x00020000)])) 8 2
      = [some 0x00008000, some 0x00010000] := by decide
theorem test_vdivs2_by_zero :
    group (exec (.vdivs2 8 0 4) (withRegs [(0, 0x00010000), (1, 0x00020000), (4, 0)])) 8 2
      = [some 0x00010000, some 0x00020000] := by decide
theorem test_vdivs3_truncates :
    group (exec (.vdivs3 8 0 4) (withRegs [(0, 0x00010000), (1, 0x00020000), (2, 0x00030000), (4, 0xFFFD0000)])) 8 3
      = [some 0xFFFFAAAB, some 0xFFFF5556, some 0xFFFF0000] := by decide
theorem test_vdivs3_by_zero :
    group (exec (.vdivs3 8 0 4) (withRegs [(0, 0x00010000), (1, 0x00020000), (2, 0x00030000), (4, 0)])) 8 3
      = [some 0x00010000, some 0x00020000, some 0x00030000] := by decide
theorem test_vneg2 :
    group (exec (.vneg2 8 0) (withRegs [(0, 0x00010000), (1, 0x00020000)])) 8 2
      = [some 0xFFFF0000, some 0xFFFE0000] := by decide
theorem test_vneg3_wraps :
    group (exec (.vneg3 8 0) (withRegs [(0, 0x80000000), (1, 0), (2, 1)])) 8 3
      = [some 0x80000000, some 0, some 0xFFFFFFFF] := by decide
theorem test_vdot2 :
    group (exec (.vdot2 8 0 4) (withRegs [(0, 0x00018000), (1, 0x00020000), (4, 0x00020000), (5, 0xFFFF8000)])) 8 1
      = [some 0x00020000] := by decide
theorem test_vdot3_floors_each_term :
    group (exec (.vdot3 8 0 4) (withRegs [(0, 0xFFFFFFFF), (1, 0xFFFFFFFF), (2, 0xFFFFFFFF), (4, 1), (5, 1), (6, 1)])) 8 1
      = [some 0xFFFFFFFD] := by decide
theorem test_vdot3 :
    group (exec (.vdot3 8 0 4) (withRegs [(0, 0x00010000), (1, 0x00020000), (2, 0x00030000), (4, 0x00040000), (5, 0xFFFB0000), (6, 0x00060000)])) 8 1
      = [some 0x000C0000] := by decide
theorem test_vcross3 :
    group (exec (.vcross3 8 0 4) (withRegs [(0, 0x00010000), (1, 0x00020000), (2, 0x00030000), (4, 0x00040000), (5, 0xFFFB0000), (6, 0x00060000)])) 8 3
      = [some 0x001B0000, some 0x00060000, some 0xFFF30000] := by decide
theorem test_vcross3_in_place :
    group (exec (.vcross3 4 0 4) (withRegs [(0, 0x00010000), (1, 0x00020000), (2, 0x00030000), (4, 0x00040000), (5, 0xFFFB0000), (6, 0x00060000)])) 4 3
      = [some 0x001B0000, some 0x00060000, some 0xFFF30000] := by decide
theorem test_veq2 :
    group (exec (.veq2 8 0 4) (withRegs [(0, 0x00010000), (1, 0x00020000), (4, 0x00010000), (5, 0x00020000)])) 8 1
      = [some 1] := by decide
theorem test_veq3_last_bit :
    group (exec (.veq3 8 0 4) (withRegs [(0, 0x00010000), (1, 0x00020000), (2, 0x00030000), (4, 0x00010000), (5, 0x00020000), (6, 0x00030001)])) 8 1
      = [some 0] := by decide
theorem test_vlensq2 :
    group (exec (.vlensq2 8 0) (withRegs [(0, 0x00030000), (1, 0x00040000)])) 8 1
      = [some 0x00190000] := by decide
theorem test_vlensq3_wraps :
    group (exec (.vlensq3 8 0) (withRegs [(0, 0x00C80000), (1, 0), (2, 0)])) 8 1
      = [some 0x9C400000] := by decide
theorem test_vlen2 :
    group (exec (.vlen2 8 0) (withRegs [(0, 0x00010000), (1, 0x00010000)])) 8 1
      = [some 0x00016A09] := by decide
theorem test_vlen3 :
    group (exec (.vlen3 8 0) (withRegs [(0, 0x00020000), (1, 0x00030000), (2, 0x00060000)])) 8 1
      = [some 0x00070000] := by decide
theorem test_vlen2_wrapped_square :
    group (exec (.vlen2 8 0) (withRegs [(0, 0x00C80000), (1, 0)])) 8 1
      = [some 0] := by decide
theorem test_vnorm2 :
    group (exec (.vnorm2 8 0) (withRegs [(0, 0x00030000), (1, 0x00040000)])) 8 2
      = [some 0x00009999, some 0x0000CCCC] := by decide
theorem test_vnorm2_zero :
    group (exec (.vnorm2 8 0) (withRegs [(0, 0), (1, 0)])) 8 2
      = [some 0, some 0] := by decide
theorem test_vnorm3 :
    group (exec (.vnorm3 8 0) (withRegs [(0, 0x00010000), (1, 0x00010000), (2, 0x00010000)])) 8 3
      = [some 0x000093CD, some 0x000093CD, some 0x000093CD] := by decide
theorem test_vnorm3_length_zero :
    group (exec (.vnorm3 8 0) (withRegs [(0, 0x00C80000), (1, 0), (2, 0)])) 8 3
      = [some 0x00C80000, some 0, some 0] := by decide
theorem test_vdist2 :
    group (exec (.vdist2 8 0 4) (withRegs [(0, 0), (1, 0), (4, 0x00030000), (5, 0x00040000)])) 8 1
      = [some 0x00050000] := by decide
theorem test_vdist3 :
    group (exec (.vdist3 8 0 4) (withRegs [(0, 0x00010000), (1, 0x00010000), (2, 0x00010000), (4, 0x00040000), (5, 0x00050000), (6, 0x00010000)])) 8 1
      = [some 0x00050000] := by decide
theorem test_projs_scenario :
    group (exec (.projs 12 0 3) (withRegs [(0, 0), (1, 0), (2, 0x00640000), (3, 0x00C80000)])) 12 4
      = [some 120, some 80, some 0x0000AAAA, some 1] := by decide
theorem test_projs_past_margin :
    group (exec (.projs 12 0 3) (withRegs [(0, 0x00990000), (1, 0), (2, 0), (3, 0x00C80000)])) 12 4
      = [some 0, some 0, some 0, some 0] := by decide
theorem test_sprscale_scenario :
    group (exec (.sprscale 4 1 2 3) (withRegs [(1, 0x00C80000), (2, 0x00640000), (3, 256)])) 4 1
      = [some 128] := by decide
theorem test_sprscale_not_clamped :
    group (exec (.sprscale 4 1 2 3) (withRegs [(1, 0xFFFF0000), (2, 0x00640000), (3, 0xFFFFFFF9)])) 4 1
      = [some 0xFFFFFFF9] := by decide
theorem test_cmpdepth_farther :
    group (exec (.cmpdepth 8 0 4) (withRegs [(0, 0), (1, 0), (2, 0x00640000), (4, 0), (5, 0), (6, 0x00320000)])) 8 1
      = [some 0xFFFFFFFF] := by decide
theorem test_cmpdepth_signed :
    group (exec (.cmpdepth 8 0 4) (withRegs [(0, 0), (1, 0), (2, 0x80000000), (4, 0), (5, 0), (6, 0x7FFFFFFF)])) 8 1
      = [some 1] := by decide

/-- The camera of the PROJ vectors: at the origin, looking along +z, near 1.0, far 1000.0. -/
def zCamera (rs : List (Reg × Word)) : State :=
  { withRegs rs with camTZ := 0x000A0000, camNear := 0x00010000, camFar := 0x03E80000 }

theorem test_proj_example :
    group (exec (.proj 12 0) (zCamera [(0, 0x00140000), (1, 0x000A0000), (2, 0x00320000)])) 12 4
      = [some 120, some 80, some 0x0000051E, some 1] := by decide
theorem test_proj_margin :
    group (exec (.proj 0 0) (zCamera [(0, 0xFF680000), (1, 0xFF900000), (2, 0x00010000)])) 0 4
      = [some 0xFFFFFFE0, some 192, some 0x00010000, some 1] := by decide

/-! ## Steps: STATUS behaviour and the register window (95_test_vectors.md) -/

/-- The reset state with these events waiting. -/
def withHost (es : List Event) : State := { State.reset with host := es }

/-- A host write of a command word. -/
def cmd (w : Word) : Event := .access (.write cmdOffset w)

theorem test_first_illegal_word :
    hostView (step (withHost [cmd 0x3C000000])) = some (.written, 0x00000011, 0x3C000000) := by decide
theorem test_second_illegal_word :
    hostView (step { withHost [cmd 0x87800000] with err := true, cause := 1, errcmd := 0x3C000000 })
      = some (.written, 0x00000013, 0x3C000000) := by decide
theorem test_status_clear :
    hostView (step { withHost [.access (.write 0x11 1)] with
      err := true, ovr := true, cause := 1, errcmd := 0x3C000000 }) = some (.written, 0, 0) := by decide
theorem test_status_write_of_zero :
    hostView (step { withHost [.access (.write 0x11 0xFFFFFFFE)] with
      err := true, cause := 2, errcmd := 0x08C48001 }) = some (.written, 0x21, 0x08C48001) := by decide
theorem test_errcmd_write_ignored :
    hostView (step (withHost [.access (.write 0x12 0x12345678)])) = some (.written, 0, 0) := by decide
theorem test_screen_w_keeps_16_bits :
    hostView (core.run 2 (withHost [.access (.write 0x1D 0xABCD0140), .access (.read 0x1D)]))
      = some (.data 0x140, 0, 0) := by decide
theorem test_reset_screen_h :
    hostView (step (withHost [.access (.read 0x1E)])) = some (.data 0xA0, 0, 0) := by decide
theorem test_withFetchWord_runs :
    group (step ((withRegs [(1, 3)]).withFetchWord 32 0x04C40000)) 3 1 = [some 0x00030000] := by decide
theorem test_decodeTableWord : decodeTableWord 32 0x29048C00 = some (.fclamp 4 1 2 3) := by decide

/-! ## Witnesses: for each statement with hypotheses, a state and operands that meet them all, at the ends of
the ranges its clauses name -/

/-- An access the host waits to make, as the next event. -/
def hostRead (off : Offset) : Event := .access (.read off)

theorem witness_DecodeEncodeRoundTrip :
    Instr.wellFormed (.vadd2 14 14 14) = true ∧ Instr.wellFormed (.vadd3 13 13 13) = true ∧
      Instr.wellFormed (.projs 12 13 15) = true ∧ Instr.wellFormed (.fclamp 15 15 15 15) = true := by decide

theorem witness_EncodeDecodeRoundTrip :
    decode 0xE734C000#32 = .ok (.projs 12 13 3) ∧ encode (.projs 12 13 3) = 0xE734C000#32 := by decide

/-- Each clause of DecodeCauseIsFirstFailingCheck and of UnassignedOpcodesAreIllegal has a word. -/
theorem witness_DecodeCauseIsFirstFailingCheck :
    decode 0xFC000001#32 = .error .undefOp ∧ decode 0xEF800200#32 = .error .rsvBits ∧
      decode 0xE0000400#32 = .error .unusedField ∧ decode 0x83FC0000#32 = .error .groupRange ∧
      encode (.vadd2 15 15 0) = 0x83FC0000#32 := by decide

theorem witness_StepRunsDecodedCommand :
    (withHost [cmd 0x08C48000, hostRead 3]).host = .access (.write 0x10 0x08C48000) :: [hostRead 3] ∧
      decode 0x08C48000#32 = .ok (.fadd 3 1 2) := by decide

theorem witness_StepRecordsIllegalWord_first :
    (withHost [cmd 0x83FC0000]).host = [.access (.write 0x10 0x83FC0000)] ∧
      decode 0x83FC0000#32 = .error .groupRange ∧ (withHost [cmd 0x83FC0000]).err = false := by decide

theorem witness_StepRecordsIllegalWord_later :
    ({ withHost [cmd 0] with err := true, cause := 4, errcmd := 0x83FC0000 } : State).host
        = [.access (.write 0x10 0)] ∧ decode 0#32 = .error .undefOp := by decide

/-- Bit 0 alone, and every bit but bit 0. -/
theorem witness_StatusWriteClearsOnBit0 :
    (withHost [.access (.write 0x11 1)]).host = [.access (.write 0x11 1)] ∧ (1 : Word).toNat % 2 = 1 ∧
      (withHost [.access (.write 0x11 0xFFFFFFFE)]).host = [.access (.write 0x11 0xFFFFFFFE)] ∧
      (0xFFFFFFFE : Word).toNat % 2 = 0 := by decide

/-- A write with nothing behind it; then, read back: a stored word, a masked one, an ignored one, and another word
than the one written. -/
theorem witness_ReadReturnsLastWrite :
    hostView (step (withHost [.access (.write 0x1E 0xFFFFFFFF)])) = some (.written, 0, 0) ∧
      hostView (core.run 2 (withHost [.access (.write 0x0F 0xFFFFFFFF), hostRead 0x0F])) = some (.data 0xFFFFFFFF, 0, 0) ∧
      hostView (core.run 2 (withHost [.access (.write 0x1E 0xFFFFFFFF), hostRead 0x1E])) = some (.data 0xFFFF, 0, 0) ∧
      hostView (core.run 2 (withHost [.access (.write 0x1F 0xFFFFFFFF), hostRead 0x1F])) = some (.data 0, 0, 0) ∧
      hostView (core.run 2 (withHost [.access (.write 0x1C 7), hostRead 0x1D])) = some (.data 240, 0, 0) := by decide

/-- A read with a reset behind it, and two reads of one word. -/
theorem witness_ReadsHaveNoSideEffect :
    hostView (step (withHost [hostRead 0x1E, .rst none])) = some (.data 160, 0, 0) ∧
      hostView (core.run 2 (withHost [hostRead 0x1D, hostRead 0x1D])) = some (.data 240, 0, 0) := by decide

/-- Both ends of the window, and the first address on either side of it. -/
theorem witness_BusAddressesReachTheWindow :
    busOffset 0x1000 0x1000 = some 0x00 ∧ busOffset 0x1000 0x107F = some 0x1F ∧
      busOffset 0x1000 0x0FFF = none ∧ busOffset 0x1000 0x1080 = none := by decide

theorem witness_ByteViewIsLittleEndian :
    (withRegs [(15, 0x04030201)]).windowByte 60 = 0x01 ∧ (withRegs [(15, 0x04030201)]).windowByte 63 = 0x04 := by
  decide

theorem witness_ResetGivesTheResetValues :
    hostView (step { withHost [.rst (some (.write 0x10 0x08C48000)), hostRead 0] with err := true })
      = some (.idle, 0, 0) ∧ (withHost [.rst none]).host = [.rst none] := by decide

theorem witness_IdleHoldsTheState : (withRegs [(3, 9)]).host = [] := by decide

/-- A state with ERR set has the invariant and takes a step that sets OVR. -/
theorem witness_StepKeepsInvariant :
    Safety.inv { withHost [cmd 0] with err := true, cause := 4, errcmd := 0x83FC0000 } = true ∧
      hostView (step { withHost [cmd 0] with err := true, cause := 4, errcmd := 0x83FC0000 })
        = some (.written, 0x43, 0x83FC0000) := by decide

theorem witness_CauseStaysLegal :
    Safety.inv (withHost [cmd 0x83FC0000, cmd 0]) = true ∧
      hostView (core.run 2 (withHost [cmd 0x83FC0000, cmd 0])) = some (.written, 0x43, 0x83FC0000) := by decide

theorem witness_LegalCommandsKeepControlRegisters :
    Instr.wellFormed (.proj 12 13) = true ∧ Safety.isRandom (.proj 12 13) = false ∧
      Instr.wellFormed (.rbool 15) = true ∧ Safety.isRandom (.rbool 15) = true := by decide

theorem witness_RandomCommandsAdvanceTheSeedOnce :
    Safety.isRandom (.rrange 1 2 3) = true ∧
      seedOf (exec (.rrange 1 2 3) State.reset) = some 0x3C6EF35F := by decide

/-- Two states that agree on the parameters, the seed and the registers and on nothing else. -/
theorem witness_RandomSequenceIsDeterministic :
    (∀ i ∈ [Instr.rfix 1, .rint 2 1], Safety.isRandom i = true) ∧
      (∀ j ∈ [Instr.rbool 3, .rrange 2 1 1], Safety.isRandom j = true) ∧
      (zCamera [(1, 5)]).cfg = (withRegs [(1, 5)]).cfg ∧
      (zCamera [(1, 5)]).rngSeed = (withRegs [(1, 5)]).rngSeed ∧
      (zCamera [(1, 5)]).regs = (withRegs [(1, 5)]).regs := by decide

theorem witness_CameraIsReadByProjOnly :
    (withHost [.access (.write 0x1A 5)]).host = [.access (.write 0x1A 5)] ∧
      Safety.isProj (.projs 12 0 3) = false ∧ Safety.isProj (.proj 12 0) = true := by decide

theorem witness_GroupPastR15TakesIllegalCommand :
    Instr.wellFormed (.vadd3 14 0 0) = false ∧
      hostView (exec (.vadd3 14 0 0) State.reset) = some (.idle, 0x41, 0x87800000) ∧
      hostView (exec (.vadd3 14 0 0) { State.reset with err := true, cause := 1 }) = some (.idle, 0x13, 0) := by
  decide

theorem witness_GroupRegistersAreConsecutive :
    groupFits 12 4 = true ∧ (groupReg 12 3).val = 15 ∧ groupFits 13 4 = false := by decide

/-- The three cases of FCLAMP, at equality where they meet. -/
theorem witness_ClampIsSigned :
    (0xFFFFFFFF#32).slt 0#32 = true ∧ (0#32).slt 0#32 = false ∧ (0#32).sle 1#32 = true ∧
      (1#32).slt 2#32 = true ∧ (1#32).slt 1#32 = false := by decide

/-- The largest operand that fits for each sign of a divisor of magnitude 1.0. -/
theorem witness_DivideUndoesMultiply :
    65536 ≤ (0x00010000#32).toInt.natAbs ∧ 65536 ≤ (0xFFFF0000#32).toInt.natAbs ∧
      (0x7FFFFFFF#32).toInt * (0x00010000#32).toInt / 65536 < 2 ^ 31 ∧
      -(2 ^ 31) ≤ (0x7FFFFFFF#32).toInt * (0xFFFF0000#32).toInt / 65536 ∧
      -(2 ^ 31) ≤ (0x80000000#32).toInt * (0x00010000#32).toInt / 65536 := by decide

/-- Operands -1, 1 and 2, on either side of where the clauses meet. -/
theorem witness_IntegerRootIsEightNewtonSteps :
    group (exec (.isqrt 3 1) (withRegs [(1, 0xFFFFFFFF)])) 3 1 = [some 0] ∧
      group (exec (.isqrt 3 1) (withRegs [(1, 1)])) 3 1 = [some 0] ∧
      group (exec (.isqrt 3 1) (withRegs [(1, 2)])) 3 1 = [some 1] := by decide

/-- The first and the last angle of each quarter (41_angle.md R74's table). -/
theorem witness_SineQuarterWave :
    [0, 63, 64, 65, 127, 128, 191, 192, 193, 255].map
        (fun a => group (exec (.sin 3 1) (withRegs [(1, BitVec.ofNat 32 a)])) 3 1)
      = [[some 0], [some 65516], [some 65536], [some 65516], [some 1608], [some 0], [some 0xFFFF0014],
          [some 0xFFFF0000], [some 0xFFFF0014], [some 0xFFFFF9B8]] := by decide

theorem witness_CosineAndTangent :
    sinF defaultConfig ((64 : Word) + 64#32).toInt = 0#32 ∧ sinF defaultConfig ((0 : Word) + 64#32).toInt ≠ 0#32 := by
  decide

theorem witness_SineLaws :
    defaultConfig.legal = true ∧ (300 : Word).toNat % 256 = (44 : Word).toNat % 256 := by decide

/-- Both ends of the range of ATAN_K, and the default inside it. -/
theorem witness_ArctangentIsCanonical :
    -(2 ^ 21) ≤ State.reset.cfg.atanK ∧ State.reset.cfg.atanK ≤ 2 ^ 21 ∧
      octantAngle (-(2 ^ 21)) 1 2 = 8 ∧ octantAngle (2 ^ 21) 1 2 = 24 := by decide

/-- One pair of operands for each axis, the origin, the two halves of the diagonal and a point off them. -/
theorem witness_DefaultArctangent :
    State.reset.cfg.atan2 = .ref ∧
      [(0, 0), (0, 1), (1, 0), (0, -1), (-1, 0), (1, 1), (-1, -1), (2, 1)].map
          (fun p : Int × Int =>
            group (exec (.atan2 3 1 2) (withRegs [(1, BitVec.ofInt 32 p.1), (2, BitVec.ofInt 32 p.2)])) 3 1)
        = [[some 0], [some 0], [some 64], [some 128], [some 192], [some 32], [some 160], [some 45]] := by decide

/-- With ATAN_K = 0 only the linear term of 41_angle.md R80 is left: (1, 2) gives 32 / 2. -/
theorem witness_DefaultArctangent_other_constant :
    group (exec (.atan2 3 1 2)
      { withRegs [(1, 1), (2, 2)] with cfg := { defaultConfig with atanK := 0 } }) 3 1 = [some 16] := by decide

/-- n = 0 and n = 1; an empty range and a range of one. -/
theorem witness_RandomResults :
    group (exec (.rint 3 1) (withRegs [(1, 0)])) 3 1 = [some 0] ∧
      group (exec (.rint 3 1) (withRegs [(1, 1)])) 3 1 = [some 0] ∧
      group (exec (.rrange 3 1 2) (withRegs [(1, 7), (2, 7)])) 3 1 = [some 7] ∧
      group (exec (.rrange 3 1 2) (withRegs [(1, 7), (2, 8)])) 3 1 = [some 7] := by decide

/-- The highest base of each group: the hypotheses of VectorAddSubtractNegate, VectorScale,
DotProductAndSquaredLength, CrossProduct, CrossProductIsAlternating, LengthAndDistance, Normalize and
ProjectionResultIsZeroOrOnScreen. -/
theorem witness_vector_groups :
    groupFits 14 2 = true ∧ groupFits 13 3 = true ∧ groupFits 12 4 = true := by decide

/-- A zero divisor and a divisor of one LSB. -/
theorem witness_VectorDivide :
    (withRegs [(2, 0)]).reg 2 = 0#32 ∧ (withRegs [(2, 1)]).reg 2 ≠ 0#32 ∧ groupFits 13 3 = true := by decide

theorem witness_VectorEquality :
    ((withRegs [(0, 1), (3, 1)]).v3 0 = (withRegs [(0, 1), (3, 1)]).v3 3) ∧
      ((withRegs [(2, 1)]).v3 0 ≠ (withRegs [(2, 1)]).v3 3) := by decide

/-- A point of z components below near, at near, at far and above far, under the camera of the PROJ vectors: the
forward vector is (0, 0, 1.0), so the depth is z. -/
theorem witness_CameraProjection :
    norm3 ⟨0, 0, 0x000A0000⟩ = ⟨0, 0, 0x00010000⟩ ∧
      [0x0000FFFF, 0x00010000, 0x03E80000, 0x03E80001].map
          (fun z => Safety.dot3Via64 ⟨0, 0, z⟩ ⟨0, 0, 0x00010000⟩)
        = [0x0000FFFF, 0x00010000, 0x03E80000, 0x03E80001] := by decide

/-- A point on the last visible column and the next one, at scale 1.0. -/
theorem witness_onScreen :
    Safety.onScreen State.reset (Safety.screenPoint State.reset 0x00980000 0 0x00010000) ∧
      ¬Safety.onScreen State.reset (Safety.screenPoint State.reset 0x00990000 0 0x00010000) := by
  unfold Safety.onScreen Safety.screenPoint
  decide

/-- z = 0 and z = -1 LSB; a depth at DEPTH_MIN and one below it. -/
theorem witness_SimpleProjection :
    (0#32).slt 0#32 = false ∧ (0xFFFFFFFF#32).slt 0#32 = true ∧ (1#32).slt State.reset.cfg.depthMin = false ∧
      (0#32).slt State.reset.cfg.depthMin = true := by decide

/-- A distance of 0 and of one LSB. -/
theorem witness_SpriteScale :
    group (exec (.sprscale 4 1 2 3) (withRegs [(1, 0), (2, 5), (3, 7)])) 4 1 = [some 7] ∧
      group (exec (.sprscale 4 1 2 3) (withRegs [(1, 1), (2, 1), (3, 7)])) 4 1 = [some 7] := by decide

theorem witness_DepthOrderIsAntisymmetric :
    (0xFFFFFFFF#32).slt 0#32 = true ∧ groupFits 13 3 = true ∧ groupFits 0 3 = true := by decide

end Sys2Proof.Tests
end

/-! ## Every command: its group check, its word -/

namespace Sys2Proof.Laws

/-- The per-command facts, of every command. -/
theorem groupCheck_and_fieldsRebuild : ∀ i : Instr, GroupCheck.Statement i ∧ FieldsRebuild.Statement i
  | .fromint _ _ => ⟨GroupCheck.fromint _ _, FieldsRebuild.fromint _ _⟩
  | .fadd _ _ _ => ⟨GroupCheck.fadd _ _ _, FieldsRebuild.fadd _ _ _⟩
  | .fsub _ _ _ => ⟨GroupCheck.fsub _ _ _, FieldsRebuild.fsub _ _ _⟩
  | .fmul _ _ _ => ⟨GroupCheck.fmul _ _ _, FieldsRebuild.fmul _ _ _⟩
  | .fdiv _ _ _ => ⟨GroupCheck.fdiv _ _ _, FieldsRebuild.fdiv _ _ _⟩
  | .fround _ _ => ⟨GroupCheck.fround _ _, FieldsRebuild.fround _ _⟩
  | .ffloor _ _ => ⟨GroupCheck.ffloor _ _, FieldsRebuild.ffloor _ _⟩
  | .fceil _ _ => ⟨GroupCheck.fceil _ _, FieldsRebuild.fceil _ _⟩
  | .ffrac _ _ => ⟨GroupCheck.ffrac _ _, FieldsRebuild.ffrac _ _⟩
  | .fclamp _ _ _ _ => ⟨GroupCheck.fclamp _ _ _ _, FieldsRebuild.fclamp _ _ _ _⟩
  | .flerp _ _ _ _ => ⟨GroupCheck.flerp _ _ _ _, FieldsRebuild.flerp _ _ _ _⟩
  | .fcmp _ _ _ => ⟨GroupCheck.fcmp _ _ _, FieldsRebuild.fcmp _ _ _⟩
  | .fsqrt _ _ => ⟨GroupCheck.fsqrt _ _, FieldsRebuild.fsqrt _ _⟩
  | .isqrt _ _ => ⟨GroupCheck.isqrt _ _, FieldsRebuild.isqrt _ _⟩
  | .sin _ _ => ⟨GroupCheck.sin _ _, FieldsRebuild.sin _ _⟩
  | .cos _ _ => ⟨GroupCheck.cos _ _, FieldsRebuild.cos _ _⟩
  | .tan _ _ => ⟨GroupCheck.tan _ _, FieldsRebuild.tan _ _⟩
  | .atan2 _ _ _ => ⟨GroupCheck.atan2 _ _ _, FieldsRebuild.atan2 _ _ _⟩
  | .deg2ang _ _ => ⟨GroupCheck.deg2ang _ _, FieldsRebuild.deg2ang _ _⟩
  | .ang2deg _ _ => ⟨GroupCheck.ang2deg _ _, FieldsRebuild.ang2deg _ _⟩
  | .rad2ang _ _ => ⟨GroupCheck.rad2ang _ _, FieldsRebuild.rad2ang _ _⟩
  | .ang2rad _ _ => ⟨GroupCheck.ang2rad _ _, FieldsRebuild.ang2rad _ _⟩
  | .rint _ _ => ⟨GroupCheck.rint _ _, FieldsRebuild.rint _ _⟩
  | .rrange _ _ _ => ⟨GroupCheck.rrange _ _ _, FieldsRebuild.rrange _ _ _⟩
  | .rbool _ => ⟨GroupCheck.rbool _, FieldsRebuild.rbool _⟩
  | .rfix _ => ⟨GroupCheck.rfix _, FieldsRebuild.rfix _⟩
  | .vadd2 _ _ _ => ⟨GroupCheck.vadd2 _ _ _, FieldsRebuild.vadd2 _ _ _⟩
  | .vadd3 _ _ _ => ⟨GroupCheck.vadd3 _ _ _, FieldsRebuild.vadd3 _ _ _⟩
  | .vsub2 _ _ _ => ⟨GroupCheck.vsub2 _ _ _, FieldsRebuild.vsub2 _ _ _⟩
  | .vsub3 _ _ _ => ⟨GroupCheck.vsub3 _ _ _, FieldsRebuild.vsub3 _ _ _⟩
  | .vscale2 _ _ _ => ⟨GroupCheck.vscale2 _ _ _, FieldsRebuild.vscale2 _ _ _⟩
  | .vscale3 _ _ _ => ⟨GroupCheck.vscale3 _ _ _, FieldsRebuild.vscale3 _ _ _⟩
  | .vdivs2 _ _ _ => ⟨GroupCheck.vdivs2 _ _ _, FieldsRebuild.vdivs2 _ _ _⟩
  | .vdivs3 _ _ _ => ⟨GroupCheck.vdivs3 _ _ _, FieldsRebuild.vdivs3 _ _ _⟩
  | .vneg2 _ _ => ⟨GroupCheck.vneg2 _ _, FieldsRebuild.vneg2 _ _⟩
  | .vneg3 _ _ => ⟨GroupCheck.vneg3 _ _, FieldsRebuild.vneg3 _ _⟩
  | .vdot2 _ _ _ => ⟨GroupCheck.vdot2 _ _ _, FieldsRebuild.vdot2 _ _ _⟩
  | .vdot3 _ _ _ => ⟨GroupCheck.vdot3 _ _ _, FieldsRebuild.vdot3 _ _ _⟩
  | .vcross3 _ _ _ => ⟨GroupCheck.vcross3 _ _ _, FieldsRebuild.vcross3 _ _ _⟩
  | .veq2 _ _ _ => ⟨GroupCheck.veq2 _ _ _, FieldsRebuild.veq2 _ _ _⟩
  | .veq3 _ _ _ => ⟨GroupCheck.veq3 _ _ _, FieldsRebuild.veq3 _ _ _⟩
  | .vlensq2 _ _ => ⟨GroupCheck.vlensq2 _ _, FieldsRebuild.vlensq2 _ _⟩
  | .vlensq3 _ _ => ⟨GroupCheck.vlensq3 _ _, FieldsRebuild.vlensq3 _ _⟩
  | .vlen2 _ _ => ⟨GroupCheck.vlen2 _ _, FieldsRebuild.vlen2 _ _⟩
  | .vlen3 _ _ => ⟨GroupCheck.vlen3 _ _, FieldsRebuild.vlen3 _ _⟩
  | .vnorm2 _ _ => ⟨GroupCheck.vnorm2 _ _, FieldsRebuild.vnorm2 _ _⟩
  | .vnorm3 _ _ => ⟨GroupCheck.vnorm3 _ _, FieldsRebuild.vnorm3 _ _⟩
  | .vdist2 _ _ _ => ⟨GroupCheck.vdist2 _ _ _, FieldsRebuild.vdist2 _ _ _⟩
  | .vdist3 _ _ _ => ⟨GroupCheck.vdist3 _ _ _, FieldsRebuild.vdist3 _ _ _⟩
  | .proj _ _ => ⟨GroupCheck.proj _ _, FieldsRebuild.proj _ _⟩
  | .projs _ _ _ => ⟨GroupCheck.projs _ _ _, FieldsRebuild.projs _ _ _⟩
  | .sprscale _ _ _ _ => ⟨GroupCheck.sprscale _ _ _ _, FieldsRebuild.sprscale _ _ _ _⟩
  | .cmpdepth _ _ _ => ⟨GroupCheck.cmpdepth _ _ _, FieldsRebuild.cmpdepth _ _ _⟩

theorem groupsFit_eq_wellFormed (i : Instr) : i.groupsFit = i.wellFormed :=
  (groupCheck_and_fieldsRebuild i).1

/-- The word of a command decodes to it where its groups fit; where one does not, the group check is the
first that fails (30_encoding.md R50). -/
theorem decode_encode (i : Instr) :
    decode (encode i) = if i.groupsFit then .ok i else .error .groupRange := by
  obtain ⟨hop, hfields, hzero⟩ := encode_fields i
  obtain ⟨hbuild, c, hclasses, hunused⟩ := (groupCheck_and_fieldsRebuild i).2
  have hfit : i.groupsFit = c.rangeOk i.fields := by simp [Instr.groupsFit, hclasses]
  rw [hfit]
  cases hrange : c.rangeOk i.fields <;>
    simp [decode, hop, hfields, hzero, hbuild, hclasses, hunused, hrange]

end Sys2Proof.Laws

/-! ## What a command reads and what it writes -/

namespace Sys2Proof.Machine

open Sys2Proof.Safety

/-- What a legal command writes at its completion, computed from the old registers (30_encoding.md R51). -/
inductive Write where
  /-- One register. -/
  | reg (d : Reg) (w : Word)
  /-- One register, and the next seed into RNG_SEED. -/
  | random (d : Reg) (w : Word)
  /-- A group of 2. -/
  | v2 (d : Reg) (v : V2)
  /-- A group of 3. -/
  | v3 (d : Reg) (v : V3)
  /-- A group of 4. -/
  | projection (d : Reg) (p : ProjectionResult)

/-- The state after the write. -/
def Write.apply (s : State) : Write → State
  | .reg d w => s.setReg d w
  | .random d w => s.setRandom d w
  | .v2 d v => s.setV2 d v
  | .v3 d v => s.setV3 d v
  | .projection d p => s.setProjection d p

theorem Write.agreesOffRegs (s : State) : ∀ x : Write, AgreesOffRegs s (x.apply s)
  | .reg d w => agreesOffRegs_setReg s d w
  | .random d w => agreesOffRegs_setRandom s d w
  | .v2 d v => agreesOffRegs_setV2 s d v
  | .v3 d v => agreesOffRegs_setV3 s d v
  | .projection d p => agreesOffRegs_setProjection s d p

/-- The two states agree on all that a command other than PROJ reads. -/
structure SameOperands (s t : State) : Prop where
  regs : t.regs = s.regs
  rngSeed : t.rngSeed = s.rngSeed
  screenW : t.screenW = s.screenW
  screenH : t.screenH = s.screenH
  cfg : t.cfg = s.cfg

/-- The two states agree on the camera registers that PROJ reads (10_state.md R28). -/
structure SameCamera (s t : State) : Prop where
  camPX : t.camPX = s.camPX
  camPY : t.camPY = s.camPY
  camPZ : t.camPZ = s.camPZ
  camTX : t.camTX = s.camTX
  camTY : t.camTY = s.camTY
  camTZ : t.camTZ = s.camTZ
  camNear : t.camNear = s.camNear
  camFar : t.camFar = s.camFar

/-- A command of scalars alone is as good as guarded: there is no group to reach past R15. -/
theorem next_eq_guarded {i : Instr} (h : i.wellFormed = true) (s t : State) : .next t = guarded i s t :=
  (guarded_of_fit ((Laws.groupsFit_eq_wellFormed i).trans h) s t).symm

/-- A command writes the same in two states that agree on what it reads, and it writes nothing where one of
its groups does not fit. The cases are the forms of result a command can have. -/
theorem exec_writes_same (i : Instr) {s t : State} (h : SameOperands s t)
    (hcam : isProj i = true → SameCamera s t) :
    ∃ x : Write, exec i s = guarded i s (x.apply s) ∧ exec i t = guarded i t (x.apply t) := by
  obtain ⟨⟩ := s
  obtain ⟨⟩ := t
  obtain ⟨rfl, rfl, rfl, rfl, rfl⟩ := h
  cases i with
  | fromint | fadd | fsub | fmul | fdiv | fround | ffloor | fceil | ffrac | fclamp | flerp | fcmp | fsqrt
  | isqrt | sin | cos | tan | atan2 | deg2ang | ang2deg | rad2ang | ang2rad | sprscale =>
    exact ⟨.reg _ _, next_eq_guarded rfl _ _, next_eq_guarded rfl _ _⟩
  | rint | rrange | rbool | rfix =>
    exact ⟨.random _ _, next_eq_guarded rfl _ _, next_eq_guarded rfl _ _⟩
  | vadd2 | vsub2 | vscale2 | vdivs2 | vneg2 | vnorm2 => exact ⟨.v2 _ _, rfl, rfl⟩
  | vadd3 | vsub3 | vscale3 | vdivs3 | vneg3 | vcross3 | vnorm3 => exact ⟨.v3 _ _, rfl, rfl⟩
  | vdot2 | vdot3 | veq2 | veq3 | vlensq2 | vlensq3 | vlen2 | vlen3 | vdist2 | vdist3 | cmpdepth =>
    exact ⟨.reg _ _, rfl, rfl⟩
  | projs => exact ⟨.projection _ _, rfl, rfl⟩
  | proj =>
    obtain ⟨rfl, rfl, rfl, rfl, rfl, rfl, rfl, rfl⟩ := hcam rfl
    exact ⟨.projection _ _, rfl, rfl⟩

end Sys2Proof.Machine

/-! ## What a command can do -/

namespace Sys2Proof.Machine

open Sys2Proof.Safety

/-- Everything a command can do: write its result, or be recorded with GROUP_RANGE. -/
theorem exec_cases (i : Instr) (s : State) :
    (i.groupsFit = true ∧ ∃ x : Write, exec i s = .next (x.apply s)) ∨
      (i.groupsFit = false ∧ exec i s = .next (takeIllegal .groupRange (encode i) s)) := by
  obtain ⟨x, hexec, -⟩ := exec_writes_same i (s := s) (t := s) ⟨rfl, rfl, rfl, rfl, rfl⟩
    fun _ => ⟨rfl, rfl, rfl, rfl, rfl, rfl, rfl, rfl⟩
  rw [hexec]
  exact (guarded_cases i s (x.apply s)).imp_left fun ⟨hfit, hnext⟩ => ⟨hfit, x, hnext⟩

@[simp] theorem takeIllegal_reg (c : Cause) (w : Word) (s : State) (r : Reg) :
    (takeIllegal c w s).reg r = s.reg r := by
  simp [State.reg]

/-- The change `f` of a state commutes with both effects of a command: its write, and the illegal-command
event. -/
structure CommutesWithEffects (f : State → State) : Prop where
  write : ∀ (x : Write) (s : State), x.apply (f s) = f (x.apply s)
  illegal : ∀ (c : Cause) (w : Word) (s : State), takeIllegal c w (f s) = f (takeIllegal c w s)

/-- A command does not see a change that commutes with its effects and keeps what it reads. -/
theorem exec_commutes {f : State → State} (hf : CommutesWithEffects f) {i : Instr} {s : State}
    (hsame : SameOperands s (f s)) (hcam : isProj i = true → SameCamera s (f s)) :
    ∃ t, exec i s = .next t ∧ exec i (f s) = .next (f t) := by
  obtain ⟨x, hs, hfs⟩ := exec_writes_same i hsame hcam
  rw [hs, hfs]
  cases hfit : i.groupsFit
  · exact ⟨takeIllegal .groupRange (encode i) s, by simp [guarded, hfit], by simp [guarded, hfit, hf.illegal]⟩
  · exact ⟨x.apply s, guarded_of_fit hfit _ _, by rw [guarded_of_fit hfit, hf.write]⟩

/-- Another value of CAM_FOV (10_state.md R28). -/
def State.withCamFov (fov : Word) (s : State) : State := { s with camFov := fov }

/-- Other values of the camera registers that PROJ reads (10_state.md R28). -/
def State.withCamera (px py pz tx ty tz near far : Word) (s : State) : State :=
  { s with camPX := px, camPY := py, camPZ := pz, camTX := tx, camTY := ty, camTZ := tz,
           camNear := near, camFar := far }

theorem withCamFov_commutes (fov : Word) : CommutesWithEffects (State.withCamFov fov) where
  write x s := by cases x <;> rfl
  illegal c w s := by cases h : s.err <;> simp [State.withCamFov, takeIllegal, h]

theorem withCamera_commutes (px py pz tx ty tz near far : Word) :
    CommutesWithEffects (State.withCamera px py pz tx ty tz near far) where
  write x s := by cases x <;> rfl
  illegal c w s := by cases h : s.err <;> simp [State.withCamera, takeIllegal, h]

end Sys2Proof.Machine

/-! ## One step and the window, by the kind of access -/

namespace Sys2Proof.Machine

theorem step_of_access {s : State} {a : Access} {rest : List Event} (h : s.host = .access a :: rest) :
    step s = performAccess a { s with host := rest } := by
  simp only [step, h, performEvent]

theorem step_of_read {s : State} {off : Offset} {rest : List Event}
    (h : s.host = .access (.read off) :: rest) :
    step s = .next { s with host := rest, resp := .data (s.window off) } :=
  step_of_access h

theorem step_of_command {s : State} {w : Word} {rest : List Event}
    (h : s.host = .access (.write cmdOffset w) :: rest) :
    step s = runCommand w { s with host := rest, resp := .written } :=
  step_of_access h

theorem step_of_write {s : State} {off : Offset} {w : Word} {rest : List Event}
    (h : s.host = .access (.write off w) :: rest) (hoff : off ≠ cmdOffset) :
    step s = .next (writeReg w (windowReg off) { s with host := rest, resp := .written }) := by
  rw [step_of_access h]
  rcases performAccess_cases (.write off w) { s with host := rest } with
    ⟨_, ha, -⟩ | ⟨_, ha, -⟩ | ⟨_, _, ha, -, hnext⟩
  · cases ha
  · cases ha; exact absurd rfl hoff
  · cases ha; exact hnext

theorem windowReg_eq_status (off : Offset) : windowReg off = .status ↔ off = 0x11#5 := by
  revert off; decide

theorem windowReg_eq_errcmd (off : Offset) : windowReg off = .errcmd ↔ off = 0x12#5 := by
  revert off; decide

theorem windowReg_eq_screenW (off : Offset) : windowReg off = .screenW ↔ off = 0x1D#5 := by
  revert off; decide

theorem windowReg_eq_screenH (off : Offset) : windowReg off = .screenH ↔ off = 0x1E#5 := by
  revert off; decide

theorem windowReg_eq_reserved (off : Offset) : windowReg off = .reserved ↔ off = 0x1F#5 := by
  revert off; decide

/-- A STATUS write clears STATUS where bit 0 is set and does nothing else (10_state.md R25). -/
theorem writeReg_status (w : Word) (s : State) :
    writeReg w .status s = if w.toNat % 2 = 1 then clearStatus s else s := by
  have hbit : w.getLsbD 0 = decide (w.toNat % 2 = 1) := by simp only [BitVec.getLsbD, Nat.testBit_zero]
  simp only [writeReg, hbit, decide_eq_true_eq]

/-- No register stands at two word offsets. -/
theorem windowReg_injective : Function.Injective windowReg := by
  unfold Function.Injective; decide

/-- The low 16 bits of a word, as a screen size keeps and returns them (10_state.md R29). -/
theorem setWidth_extractLsb'_low (w : Word) : (w.extractLsb' 0 16).setWidth 32 = w &&& 0xFFFF#32 := by
  apply BitVec.eq_of_toNat_eq
  have hlow : w.toNat % 65536 < 4294967296 := by omega
  simpa [Nat.mod_eq_of_lt hlow] using (Nat.and_two_pow_sub_one_eq_mod w.toNat 16).symm

/-- A write leaves every other window word as it was. -/
theorem window_writeReg_of_ne {wr : WindowReg} {off : Offset} (hne : windowReg off ≠ wr)
    (hstatus : wr ≠ .status) (w : Word) (s : State) : (writeReg w wr s).window off = s.window off := by
  unfold State.window
  generalize windowReg off = other at hne
  cases wr with
  | gpr r => cases other with
    | gpr q => exact State.reg_setReg_ne s r q w fun h => hne (congrArg _ h)
    | _ => rfl
  | status => exact absurd rfl hstatus
  | _ => cases other with
    | gpr q => rfl
    | _ => simp_all [writeReg, State.statusWord]

/-- A write of a window word other than CMD and STATUS is read back, but for the bits no register holds
(20_memory.md R39, R40). -/
theorem window_writeReg_same {off : Offset} (hcmd : off ≠ 0x10#5) (hstatus : off ≠ 0x11#5) (w : Word)
    (s : State) : (writeReg w (windowReg off) s).window off =
      if off = 0x12#5 ∨ off = 0x1F#5 then s.window off
      else if off = 0x1D#5 ∨ off = 0x1E#5 then w &&& 0xFFFF#32 else w := by
  simp only [← windowReg_eq_errcmd, ← windowReg_eq_reserved, ← windowReg_eq_screenW, ← windowReg_eq_screenH]
  have hcmd' : windowReg off ≠ .cmd := fun h => hcmd ((windowReg_eq_cmd off).mp h)
  have hstatus' : windowReg off ≠ .status := fun h => hstatus ((windowReg_eq_status off).mp h)
  unfold State.window
  generalize windowReg off = wr at hcmd' hstatus'
  cases wr with
  | gpr r => simp [writeReg]
  | cmd => exact absurd rfl hcmd'
  | status => exact absurd rfl hstatus'
  | screenW | screenH => exact setWidth_extractLsb'_low w
  | _ => rfl

/-- The window after a write of a word other than CMD and STATUS. -/
theorem window_writeReg {off : Offset} (hcmd : off ≠ 0x10#5) (hstatus : off ≠ 0x11#5) (w : Word) (s : State)
    (off' : Offset) : (writeReg w (windowReg off) s).window off' =
      if off' ≠ off ∨ off = 0x12#5 ∨ off = 0x1F#5 then s.window off'
      else if off = 0x1D#5 ∨ off = 0x1E#5 then w &&& 0xFFFF#32 else w := by
  by_cases hoff : off' = off
  · subst hoff
    simp only [window_writeReg_same hcmd hstatus, ne_eq, not_true_eq_false, false_or]
  · rw [if_pos (.inl hoff)]
    exact window_writeReg_of_ne (windowReg_injective.ne hoff)
      (fun h => hstatus ((windowReg_eq_status off).mp h)) w s

/-- The clear of STATUS shows in STATUS and ERRCMD alone. -/
theorem window_clearStatus {off : Offset} (hstatus : off ≠ 0x11#5) (herrcmd : off ≠ 0x12#5) (s : State) :
    (clearStatus s).window off = s.window off := by
  have hstatus' : windowReg off ≠ .status := fun h => hstatus ((windowReg_eq_status off).mp h)
  have herrcmd' : windowReg off ≠ .errcmd := fun h => herrcmd ((windowReg_eq_errcmd off).mp h)
  unfold State.window
  generalize windowReg off = wr at hstatus' herrcmd'
  cases wr with
  | status => exact absurd rfl hstatus'
  | errcmd => exact absurd rfl herrcmd'
  | _ => rfl

@[simp] theorem writeReg_resp (w : Word) (wr : WindowReg) (s : State) : (writeReg w wr s).resp = s.resp := by
  cases wr with
  | status => rw [writeReg_status]; split <;> rfl
  | _ => rfl

@[simp] theorem writeReg_host (w : Word) (wr : WindowReg) (s : State) : (writeReg w wr s).host = s.host := by
  cases wr with
  | status => rw [writeReg_status]; split <;> rfl
  | _ => rfl

theorem core_run_succ {s t : State} (h : step s = .next t) (n : Nat) : core.run (n + 1) s = core.run n t := by
  have hcore : core.step s = .next t := h
  simp only [Host.Core.run, hcore]

end Sys2Proof.Machine

/-! ## The invariant, operation by operation -/

namespace Sys2Proof.Machine

open Sys2Proof.Safety

/-- The invariant is about STATUS, ERRCMD and the parameters alone. -/
theorem inv_congr {s t : State} (herr : t.err = s.err) (hovr : t.ovr = s.ovr) (hcause : t.cause = s.cause)
    (herrcmd : t.errcmd = s.errcmd) (hcfg : t.cfg = s.cfg) : inv t = inv s := by
  simp only [inv, statusOk, herr, hovr, hcause, herrcmd, hcfg]

theorem inv_legal {s : State} (hs : inv s = true) : s.cfg.legal = true := by
  simp only [inv, Bool.and_eq_true] at hs
  exact hs.2

/-- The reset value of STATUS and ERRCMD is 0, and the parameters stay (70_reset_and_hazards.md R153). -/
theorem inv_resetWith {c : Config} (hc : c.legal = true) (h : List Event) :
    inv { State.resetWith c with host := h } = true := by
  simp [inv, statusOk, State.resetWith, hc]

theorem inv_clearStatus {s : State} (hs : inv s = true) : inv (clearStatus s) = true := by
  simp [inv, statusOk, inv_legal hs]

/-- The first illegal word sets ERR, its word and its cause together; a later one leaves them as they
agreed (60_exceptions.md R139). -/
theorem inv_takeIllegal {c : Cause} {w : Word} (hw : decode w = .error c) {s : State} (hs : inv s = true) :
    inv (takeIllegal c w s) = true := by
  cases herr : s.err
  · simp [takeIllegal_first c w s herr, inv, statusOk, hw, inv_legal hs]
  · simpa [takeIllegal_later c w s herr, inv, statusOk, herr] using hs

theorem inv_writeReg (w : Word) (wr : WindowReg) {s : State} (hs : inv s = true) :
    inv (writeReg w wr s) = true := by
  cases wr with
  | status =>
    rw [writeReg_status]
    split
    · exact inv_clearStatus hs
    · exact hs
  | _ => exact (inv_congr rfl rfl rfl rfl rfl).trans hs

theorem exec_keeps_inv {i : Instr} {s t : State} (hs : inv s = true) (h : exec i s = .next t) :
    inv t = true := by
  rcases exec_cases i s with ⟨-, x, hnext⟩ | ⟨hfit, hnext⟩ <;> cases hnext.symm.trans h
  · have hx := x.agreesOffRegs s
    exact (inv_congr hx.err hx.ovr hx.cause hx.errcmd hx.cfg).trans hs
  · have hw : decode (encode i) = .error .groupRange := by simp [Laws.decode_encode, hfit]
    exact inv_takeIllegal hw hs

theorem runCommand_keeps_inv {w : Word} {s t : State} (hs : inv s = true) (h : runCommand w s = .next t) :
    inv t = true := by
  rcases runCommand_cases w s with ⟨i, -, hrun⟩ | ⟨c, hw, hrun⟩
  · exact exec_keeps_inv hs (hrun.symm.trans h)
  · cases hrun.symm.trans h
    exact inv_takeIllegal hw hs

theorem performAccess_keeps_inv {a : Access} {s t : State} (hs : inv s = true)
    (h : performAccess a s = .next t) : inv t = true := by
  have hwritten : inv { s with resp := .written } = true := (inv_congr rfl rfl rfl rfl rfl).trans hs
  rcases performAccess_cases a s with ⟨off, -, hread⟩ | ⟨w, -, hcmd⟩ | ⟨off, w, -, -, hwrite⟩
  · cases hread.symm.trans h
    exact (inv_congr rfl rfl rfl rfl rfl).trans hs
  · exact runCommand_keeps_inv hwritten (hcmd.symm.trans h)
  · cases hwrite.symm.trans h
    exact inv_writeReg w _ hwritten

/-- What every step keeps holds after any number of steps. -/
theorem core_run_keeps {P : State → Prop} (hstep : ∀ s t, P s → step s = .next t → P t) (n : Nat) :
    ∀ s t, P s → core.run n s = .next t → P t := by
  induction n with
  | zero =>
    intro s t hs h
    cases h
    exact hs
  | succ n ih =>
    intro s t hs h
    simp only [Host.Core.run] at h
    split at h
    · next u hu => exact ih u t (hstep s u hs hu) h
    · cases h
    · cases h

theorem causeCode_le (c : Cause) : (causeCode c).toNat ≤ 4 := by
  cases c <;> decide

/-- With ERR set CAUSE is the code of one of the four causes, with ERR clear it is 0 (10_state.md R25). -/
theorem cause_le_of_inv {s : State} (hs : inv s = true) : s.cause.toNat ≤ 4 := by
  simp only [inv, Bool.and_eq_true] at hs
  obtain ⟨hstatus, -⟩ := hs
  unfold statusOk at hstatus
  split at hstatus
  · split at hstatus
    · next c _ => exact (of_decide_eq_true hstatus) ▸ causeCode_le c
    · cases hstatus
  · simp only [Bool.and_eq_true, decide_eq_true_eq] at hstatus
    obtain ⟨⟨-, hcause⟩, -⟩ := hstatus
    simp [hcause]

/-- Settles O20: by the kinds of step, each operation keeping the invariant. -/
theorem stepKeepsInvariant : Obligations.StepKeepsInvariant := by
  intro s t hs h
  rcases step_cases s with ⟨-, hidle⟩ | ⟨a, rest, -, haccess⟩ | ⟨p, rest, -, hreset⟩
  · cases hidle.symm.trans h
    exact (inv_congr rfl rfl rfl rfl rfl).trans hs
  · have htaken : inv { s with host := rest } = true := (inv_congr rfl rfl rfl rfl rfl).trans hs
    exact performAccess_keeps_inv htaken (haccess.symm.trans h)
  · cases hreset.symm.trans h
    exact inv_resetWith (inv_legal hs) rest

/-- Settles O21: CAUSE is at most 4 wherever the invariant holds, and every run keeps the invariant. -/
theorem causeStaysLegal : Obligations.CauseStaysLegal :=
  fun s t n hs h => cause_le_of_inv (core_run_keeps stepKeepsInvariant n s t hs h)

end Sys2Proof.Machine

/-! ## The statements about the registers, the window and STATUS -/

namespace Sys2Proof.Machine

open Sys2Proof.Safety

/-- Settles O9: the write is `clearStatus` or nothing, by bit 0 of the word. -/
theorem statusWriteClearsOnBit0 : Obligations.StatusWriteClearsOnBit0 := by
  intro s w rest h
  refine ⟨_, step_of_write h (by decide), writeReg_resp .., writeReg_host .., ?_⟩
  rw [(windowReg_eq_status 0x11#5).mpr rfl, writeReg_status]
  split
  · next hodd =>
    exact ⟨fun _ hstatus herrcmd => window_clearStatus hstatus herrcmd _, fun _ => ⟨rfl, rfl, rfl, rfl⟩,
      fun heven => by omega⟩
  · next heven => exact ⟨fun _ _ _ => rfl, fun hodd => absurd hodd heven, fun _ => ⟨rfl, rfl, rfl, rfl⟩⟩

/-- Settles O11: the window after the write is `window_writeReg`, and a read answers with the window. -/
theorem readReturnsLastWrite : Obligations.ReadReturnsLastWrite := by
  intro s off w rest hcmd hstatus h
  have hstep := step_of_write h hcmd
  refine ⟨_, hstep, writeReg_resp .., writeReg_host .., ?_⟩
  rintro off' after rfl
  have hwindow := window_writeReg hcmd hstatus w { s with host := rest, resp := .written } off'
  refine ⟨hwindow, ?_⟩
  rintro rest' rfl
  have hread := step_of_read (writeReg_host w (windowReg off)
    { s with host := .access (.read off') :: rest', resp := .written })
  refine ⟨_, (core_run_succ hstep 1).trans (core_run_succ hread 0), ?_, rfl⟩
  exact congrArg Response.data hwindow

/-- Settles O25: both changes of the camera commute with every effect of a command and keep what it reads. -/
theorem cameraIsReadByProjOnly : Obligations.CameraIsReadByProjOnly := by
  intro i s fov px py pz tx ty tz near far
  refine ⟨fun rest h => ?_, ?_, fun hproj => ?_⟩
  · exact ⟨_, step_of_write h (by decide), window_writeReg_same (by decide) (by decide) _ _⟩
  · obtain ⟨t, hs, hfov⟩ := exec_commutes (withCamFov_commutes fov) (i := i) (s := s)
      ⟨rfl, rfl, rfl, rfl, rfl⟩ fun _ => ⟨rfl, rfl, rfl, rfl, rfl, rfl, rfl, rfl⟩
    exact ⟨t, _, hs, hfov, rfl⟩
  · obtain ⟨t, hs, hcam⟩ := exec_commutes (withCamera_commutes px py pz tx ty tz near far) (i := i) (s := s)
      ⟨rfl, rfl, rfl, rfl, rfl⟩ fun h => absurd h (by simp [hproj])
    exact ⟨t, _, hs, hcam, rfl⟩

/-- Settles O26: such a command is recorded, as a first or a later illegal word. -/
theorem groupPastR15TakesIllegalCommand : Obligations.GroupPastR15TakesIllegalCommand := by
  intro i s hwf
  have hnext : exec i s = .next (takeIllegal .groupRange (encode i) s) := by
    rcases exec_cases i s with ⟨hfit, -⟩ | ⟨-, hnext⟩
    · rw [Laws.groupsFit_eq_wellFormed, hwf] at hfit
      cases hfit
    · exact hnext
  refine ⟨_, hnext, takeIllegal_reg _ _ _, takeIllegal_rngSeed _ _ _, takeIllegal_err _ _ _, ?_, ?_⟩
  · intro herr
    rw [takeIllegal_first _ _ _ herr]
    exact ⟨rfl, rfl, rfl⟩
  · intro herr
    rw [takeIllegal_later _ _ _ herr]
    exact ⟨rfl, rfl, rfl⟩

/-- Settles O7: a word that decodes is not recorded, so the CMD write runs its command. -/
theorem stepRunsDecodedCommand : Obligations.StepRunsDecodedCommand := by
  intro s w rest i h hdecode
  rw [step_of_command h]
  rcases runCommand_cases w { s with host := rest, resp := .written } with ⟨j, hj, hrun⟩ | ⟨c, hc, -⟩
  · cases hj.symm.trans hdecode
    exact hrun
  · cases hc.symm.trans hdecode

/-- Settles O10: the value of the STATUS layout, over its 64 field values. -/
theorem statusReadsItsFields : Obligations.StatusReadsItsFields := by
  have hlayout : ∀ (err ovr : Bool) (cause : BitVec 4),
      (0#24 ++ cause ++ 0#2 ++ BitVec.ofBool ovr ++ BitVec.ofBool err).toNat =
        (if err then 1 else 0) + (if ovr then 2 else 0) + 16 * cause.toNat := by decide
  exact fun s => hlayout s.err s.ovr s.cause

/-- Settles O13: the window map, entry by entry. -/
theorem windowMap : Obligations.WindowMap := by
  intro s
  have hscreen (h : Half) : (h.setWidth 32).toNat = h.toNat := by
    rw [BitVec.toNat_setWidth, Nat.mod_eq_of_lt (by omega)]
  refine ⟨fun r => ?_, rfl, rfl, rfl, rfl, rfl, rfl, rfl, rfl, rfl, rfl, rfl, rfl, hscreen _, hscreen _, rfl⟩
  rw [State.window_gpr s r.val r.isLt, Fin.ofNat_val_eq_self]

/-- Settles O27: the number does not wrap inside a group that fits. -/
theorem groupRegistersAreConsecutive : Obligations.GroupRegistersAreConsecutive := by
  intro r k j hfit hj
  have hend := (groupFits_iff r k).mp hfit
  exact groupReg_val r j (by omega)

end Sys2Proof.Machine

/-! ## The statements about reads, the byte view and the address map -/

namespace Sys2Proof.Machine

/-- The events still to come and the response are no part of the window (log 4, 5). -/
@[simp] theorem window_with_host_resp (s : State) (rest : List Event) (resp : Response) (off : Offset) :
    State.window { s with host := rest, resp := resp } off = s.window off := rfl

/-- Byte `j` of word `k` is bits `8 j` to `8 j + 7` of the word (20_memory.md R35). -/
theorem windowByte_toNat (s : State) (k j : Nat) (hj : j < 4) :
    (s.windowByte (4 * k + j)).toNat = (s.window (BitVec.ofNat 5 k)).toNat / 2 ^ (8 * j) % 2 ^ 8 := by
  have hdiv : (4 * k + j) / 4 = k := by omega
  have hmod : (4 * k + j) % 4 = j := by omega
  rw [State.windowByte, hdiv, hmod, BitVec.extractLsb'_toNat, Nat.shiftRight_eq_div_pow]

/-- Inside the 128 bytes from WINDOW_BASE an address reaches the word of its offset (20_memory.md R34). -/
theorem busOffset_inside {base addr : Nat} (hlo : base ≤ addr) (hhi : addr < base + 128) :
    busOffset base addr = some (BitVec.ofNat 5 ((addr - base) / 4)) :=
  if_pos ⟨hlo, hhi⟩

theorem busOffset_eq_none_iff {base addr : Nat} :
    busOffset base addr = none ↔ addr < base ∨ base + 128 ≤ addr := by
  rw [busOffset, ite_eq_right_iff]
  simp only [reduceCtorEq, imp_false]
  omega

/-- Settles O12: the second read meets the window of the first, which holds neither the events nor the
response. -/
theorem readsHaveNoSideEffect : Obligations.ReadsHaveNoSideEffect := by
  intro s off rest h
  have hfirst := step_of_read h
  refine ⟨hfirst, ?_⟩
  rintro off' rest' rfl
  have hsecond : step { s with host := .access (.read off') :: rest', resp := .data (s.window off) } =
      .next { s with host := rest', resp := .data (s.window off') } := by
    rw [step_of_read rfl]
    simp only [window_with_host_resp]
  exact (core_run_succ hfirst 1).trans (core_run_succ hsecond 0)

/-- Settles O14: the bytes are the digits of the word to base 256. -/
theorem byteViewIsLittleEndian : Obligations.ByteViewIsLittleEndian := by
  intro s k _
  have hbyte0 := windowByte_toNat s k 0 (by decide)
  have hbyte1 := windowByte_toNat s k 1 (by decide)
  have hbyte2 := windowByte_toNat s k 2 (by decide)
  have hbyte3 := windowByte_toNat s k 3 (by decide)
  have hword := (s.window (BitVec.ofNat 5 k)).isLt
  rw [Nat.add_zero] at hbyte0
  omega

/-- Settles O15: the address of byte `j` of word `k` lies inside, and its offset divided by 4 is `k`. -/
theorem busAddressesReachTheWindow : Obligations.BusAddressesReachTheWindow := by
  refine fun base addr => ⟨fun k j hk hj => ?_, busOffset_eq_none_iff.mpr⟩
  have hword : (base + 4 * k + j - base) / 4 = k := by omega
  rw [busOffset_inside (by omega) (by omega), hword]

end Sys2Proof.Machine

/-! ## The statements about the encoding -/

namespace Sys2Proof.Laws

/-- A register field as a command of this class keeps it: 0 where the class is unused (30_encoding.md
R50 check 3). -/
def keepUsed (k : FieldClass) (r : Reg) : Reg :=
  match k with
  | .unused => 0
  | _ => r

/-- The four register fields as a command of these classes keeps them. -/
def keepUsedFields (c : Classes) (f : Fields) : Fields :=
  ⟨keepUsed c.rd f.rd, keepUsed c.rs1 f.rs1, keepUsed c.rs2 f.rs2, keepUsed c.rs3 f.rs3⟩

theorem keepUsed_of_unusedOk {k : FieldClass} {r : Reg} (h : k.unusedOk r = true) : keepUsed k r = r := by
  cases k with
  | unused => exact Fin.ext (of_decide_eq_true h).symm
  | _ => rfl

/-- Fields that pass the third check have nothing in the unused places to lose. -/
theorem keepUsedFields_of_unusedOk {c : Classes} {f : Fields} (h : c.unusedOk f = true) :
    keepUsedFields c f = f := by
  simp only [Classes.unusedOk, Bool.and_eq_true] at h
  obtain ⟨⟨⟨hrd, hrs1⟩, hrs2⟩, hrs3⟩ := h
  simp only [keepUsedFields, keepUsed_of_unusedOk, hrd, hrs1, hrs2, hrs3]

/-- An assigned opcode builds a command of that opcode from any register fields, and the command keeps the
fields its classes use. The cases are the 64 opcodes (30_encoding.md R52, R53). -/
theorem buildInstr_of_assigned {op : BitVec 6} {c : Classes} (h : opcodeClasses op = some c) (f : Fields) :
    ∃ i, buildInstr op f = some i ∧ i.opcode = op ∧ i.fields = keepUsedFields c f := by
  obtain ⟨⟨n, hn⟩⟩ := op
  interval_cases n <;> cases h <;> exact ⟨_, rfl, rfl, rfl⟩

/-- The operand classes of a command, those of its opcode (30_encoding.md R52). -/
def classesOf (i : Instr) : Classes := (opcodeClasses i.opcode).getD ⟨.unused, .unused, .unused, .unused⟩

theorem opcodeClasses_opcode (i : Instr) : opcodeClasses i.opcode = some (classesOf i) := by
  obtain ⟨-, c, hclasses, -⟩ := (groupCheck_and_fieldsRebuild i).2
  rw [classesOf, hclasses, Option.getD_some]

/-- An opcode has operand classes exactly where a command has it. -/
theorem opcodeClasses_eq_none_iff (op : BitVec 6) :
    opcodeClasses op = none ↔ ∀ i : Instr, i.opcode ≠ op := by
  constructor
  · rintro hnone i rfl
    cases hnone.symm.trans (opcodeClasses_opcode i)
  · intro hno
    cases hclasses : opcodeClasses op with
    | none => rfl
    | some c =>
      obtain ⟨i, -, hop, -⟩ := buildInstr_of_assigned hclasses ⟨0, 0, 0, 0⟩
      exact absurd hop (hno i)

/-- A word of an assigned opcode goes through the last three checks in their order (30_encoding.md R50). -/
theorem decode_of_assigned {w : Word} {c : Classes} (h : opcodeClasses (opField w) = some c) :
    ∃ i : Instr, i.opcode = opField w ∧ i.fields = keepUsedFields c (fieldsOf w) ∧
      decode w =
        if zeroField w ≠ 0#10 then .error .rsvBits
        else if c.unusedOk (fieldsOf w) = false then .error .unusedField
        else if c.rangeOk (fieldsOf w) = false then .error .groupRange
        else .ok i := by
  obtain ⟨i, hbuild, hop, hfields⟩ := buildInstr_of_assigned h (fieldsOf w)
  exact ⟨i, hop, hfields, by simp only [decode, h, hbuild]⟩

/-- Everything a word can be: of no command's opcode, with a reserved bit set, with an unused field set, or
the word of a command, of which `decode_encode` says the rest (30_encoding.md R50). -/
theorem decode_cases (w : Word) :
    ((∀ i : Instr, i.opcode ≠ opField w) ∧ decode w = .error .undefOp) ∨
    ((∃ i : Instr, i.opcode = opField w) ∧ zeroField w ≠ 0#10 ∧ decode w = .error .rsvBits) ∨
    ((∃ i : Instr, i.opcode = opField w) ∧ zeroField w = 0#10 ∧ decode w = .error .unusedField) ∨
    ∃ i : Instr, encode i = w := by
  cases hclasses : opcodeClasses (opField w) with
  | none => exact .inl ⟨(opcodeClasses_eq_none_iff _).mp hclasses, by simp only [decode, hclasses]⟩
  | some c =>
    obtain ⟨i, hop, hfields, hdecode⟩ := decode_of_assigned hclasses
    by_cases hzero : zeroField w = 0#10
    · cases hunused : c.unusedOk (fieldsOf w) with
      | false => exact .inr (.inr (.inl ⟨⟨i, hop⟩, hzero, by simp [hdecode, hzero, hunused]⟩))
      | true =>
        have hword : encode i = w := by
          rw [encode, hop, hfields, keepUsedFields_of_unusedOk hunused, packWord_fieldsOf w hzero]
        exact .inr (.inr (.inr ⟨i, hword⟩))
    · exact .inr (.inl ⟨⟨i, hop⟩, hzero, by simp [hdecode, hzero]⟩)

/-- Settles O1: a well-formed command passes the group check, the last one its word could fail. -/
theorem decodeEncodeRoundTrip : Obligations.DecodeEncodeRoundTrip := by
  intro i hwf
  rw [decode_encode, if_pos ((groupsFit_eq_wellFormed i).trans hwf)]

/-- Settles O2: of the kinds of word only that of a command decodes, and to that command. -/
theorem encodeDecodeRoundTrip : Obligations.EncodeDecodeRoundTrip := by
  intro w i h
  rcases decode_cases w with ⟨-, herr⟩ | ⟨-, -, herr⟩ | ⟨-, -, herr⟩ | ⟨j, rfl⟩
  · cases herr.symm.trans h
  · cases herr.symm.trans h
  · cases herr.symm.trans h
  · rw [decode_encode] at h
    split at h
    · next hfit =>
      cases h
      exact ⟨rfl, (groupsFit_eq_wellFormed i).symm.trans hfit⟩
    · cases h

/-- A command's word passes every check but the group check (30_encoding.md R50). -/
theorem decode_encode_ne_error {c : Cause} (hc : c ≠ .groupRange) (i : Instr) :
    decode (encode i) ≠ .error c := by
  rw [decode_encode]
  split
  · exact nofun
  · exact fun h => hc (Except.error.inj h).symm

/-- UNDEF_OP: check 1 of 30_encoding.md R50. -/
theorem decode_eq_undefOp_iff (w : Word) :
    decode w = .error .undefOp ↔ ∀ i : Instr, i.opcode ≠ opField w := by
  rcases decode_cases w with ⟨hno, h⟩ | ⟨⟨i, hop⟩, -, h⟩ | ⟨⟨i, hop⟩, -, h⟩ | ⟨i, rfl⟩
  · exact iff_of_true h hno
  · exact iff_of_false (by simp [h]) fun hno => hno i hop
  · exact iff_of_false (by simp [h]) fun hno => hno i hop
  · exact iff_of_false (decode_encode_ne_error (by decide) i) fun hno => hno i (opField_packWord _ _).symm

/-- RSV_BITS: check 2 of 30_encoding.md R50, reached by an assigned opcode. -/
theorem decode_eq_rsvBits_iff (w : Word) :
    decode w = .error .rsvBits ↔ (∃ i : Instr, i.opcode = opField w) ∧ zeroField w ≠ 0#10 := by
  rcases decode_cases w with ⟨hno, h⟩ | ⟨hop, hzero, h⟩ | ⟨-, hzero, h⟩ | ⟨i, rfl⟩
  · exact iff_of_false (by simp [h]) fun ⟨⟨i, hop⟩, _⟩ => hno i hop
  · exact iff_of_true h ⟨hop, hzero⟩
  · exact iff_of_false (by simp [h]) fun ⟨_, hne⟩ => hne hzero
  · exact iff_of_false (decode_encode_ne_error (by decide) i) fun ⟨_, hne⟩ => hne (zeroField_packWord _ _)

/-- UNUSED_FIELD: check 3 of 30_encoding.md R50, which every word without a command's fields fails. -/
theorem decode_eq_unusedField_iff (w : Word) :
    decode w = .error .unusedField ↔
      (∃ i : Instr, i.opcode = opField w) ∧ zeroField w = 0#10 ∧ ∀ i : Instr, encode i ≠ w := by
  rcases decode_cases w with ⟨hno, h⟩ | ⟨-, hne, h⟩ | ⟨hop, hzero, h⟩ | ⟨i, rfl⟩
  · exact iff_of_false (by simp [h]) fun ⟨⟨i, hop⟩, _⟩ => hno i hop
  · exact iff_of_false (by simp [h]) fun ⟨_, hzero, _⟩ => hne hzero
  · refine iff_of_true h ⟨hop, hzero, ?_⟩
    rintro i rfl
    exact decode_encode_ne_error (by decide) i h
  · exact iff_of_false (decode_encode_ne_error (by decide) i) fun ⟨_, _, hno⟩ => hno i rfl

/-- GROUP_RANGE: check 4 of 30_encoding.md R50, reached by the words of commands alone. -/
theorem decode_eq_groupRange_iff (w : Word) :
    decode w = .error .groupRange ↔ ∃ i : Instr, encode i = w ∧ i.wellFormed = false := by
  constructor
  · intro hrange
    rcases decode_cases w with ⟨-, h⟩ | ⟨-, -, h⟩ | ⟨-, -, h⟩ | ⟨i, rfl⟩
    · cases h.symm.trans hrange
    · cases h.symm.trans hrange
    · cases h.symm.trans hrange
    · refine ⟨i, rfl, Bool.eq_false_iff.mpr fun hwf => ?_⟩
      cases (decodeEncodeRoundTrip i hwf).symm.trans hrange
  · rintro ⟨i, rfl, hwf⟩
    rw [decode_encode, groupsFit_eq_wellFormed, hwf]
    rfl

/-- Settles O3: the four checks, each an equivalence of its own. -/
theorem decodeCauseIsFirstFailingCheck : Obligations.DecodeCauseIsFirstFailingCheck :=
  fun w => ⟨decode_eq_undefOp_iff w, decode_eq_rsvBits_iff w, decode_eq_unusedField_iff w,
    decode_eq_groupRange_iff w⟩

/-- The eleven opcodes without operand classes, of the 64 (30_encoding.md R53). -/
theorem opcodeClasses_eq_none_iff_mem : ∀ op : BitVec 6, opcodeClasses op = none ↔
    op.toNat ∈ [0x00, 0x0F, 0x1C, 0x1D, 0x1E, 0x1F, 0x2F, 0x3C, 0x3D, 0x3E, 0x3F] := by
  decide

theorem opField_toNat (w : Word) : (opField w).toNat = w.toNat / 2 ^ 26 := by
  rw [opField, BitVec.extractLsb'_toNat, Nat.shiftRight_eq_div_pow, Nat.mod_eq_of_lt (by omega)]

/-- Settles O4: an opcode no command has is one without operand classes. -/
theorem unassignedOpcodesAreIllegal : Obligations.UnassignedOpcodesAreIllegal := by
  intro w
  rw [decode_eq_undefOp_iff, ← opcodeClasses_eq_none_iff, opcodeClasses_eq_none_iff_mem, opField_toNat]

/-- A field's range check, with an unused field counted as one register. -/
theorem rangeOk_iff (k : FieldClass) (r : Reg) : k.rangeOk r = true ↔ r.val + max k.span 1 ≤ 16 := by
  rw [FieldClass.rangeOk, decide_eq_true_iff]
  omega

/-- Every command's row of the opcode map: its opcode, its fields and the spans of its operand classes
(30_encoding.md R48, R49, R52). -/
theorem opcodeRow_of_instr (i : Instr) :
    Safety.OpcodeRow i i.opcode.toNat
      (i.fields.rd, max (classesOf i).rd.span 1) (i.fields.rs1, max (classesOf i).rs1.span 1)
      (i.fields.rs2, max (classesOf i).rs2.span 1) (i.fields.rs3, max (classesOf i).rs3.span 1) := by
  refine ⟨packWord_toNat i.opcode i.fields, ?_⟩
  have hfit : i.groupsFit = (classesOf i).rangeOk i.fields := by
    simp only [Instr.groupsFit, opcodeClasses_opcode]
  rw [← groupsFit_eq_wellFormed, hfit]
  simp only [Classes.rangeOk, Bool.and_eq_true, rangeOk_iff, and_assoc]

/-- Settles O5: each row of the map is the command's own. -/
theorem commandsFollowTheOpcodeMap : Obligations.CommandsFollowTheOpcodeMap := by
  intro a b c d
  constructorm* _ ∧ _ <;> exact opcodeRow_of_instr _

/-- The word of a command whose groups fit decodes to it. -/
theorem decode_and_encode_of_word {i : Instr} {w : Word} (hword : encode i = w)
    (hwf : i.wellFormed = true) : decode w = .ok i ∧ encode i = w :=
  ⟨hword ▸ decodeEncodeRoundTrip i hwf, hword⟩

/-- Settles O6: the seven words are the encodings, and the seven commands are well formed. -/
theorem exampleWordsDecode : Obligations.ExampleWordsDecode :=
  ⟨decode_and_encode_of_word rfl rfl, decode_and_encode_of_word rfl rfl, decode_and_encode_of_word rfl rfl,
    decode_and_encode_of_word rfl rfl, decode_and_encode_of_word rfl rfl, decode_and_encode_of_word rfl rfl,
    decode_and_encode_of_word rfl rfl⟩

end Sys2Proof.Laws

/-! ## The statement about the control registers -/

namespace Sys2Proof.Machine

open Sys2Proof.Safety

/-- A command other than the random ones has a result that leaves RNG_SEED alone (45_random.md R130). The
cases are the random commands, the commands of scalars alone, and the guarded ones. -/
theorem exec_eq_guarded_keeping_seed {i : Instr} (h : isRandom i = false) (s : State) :
    ∃ t, exec i s = guarded i s t ∧ t.rngSeed = s.rngSeed := by
  cases i with
  | rint | rrange | rbool | rfix => cases h
  | fromint | fadd | fsub | fmul | fdiv | fround | ffloor | fceil | ffrac | fclamp | flerp | fcmp | fsqrt
  | isqrt | sin | cos | tan | atan2 | deg2ang | ang2deg | rad2ang | ang2rad | sprscale =>
    exact ⟨_, next_eq_guarded rfl _ _, rfl⟩
  | _ => exact ⟨_, rfl, rfl⟩

/-- A control word other than RNG_SEED is none of the words a legal command's write reaches. -/
theorem AgreesOffRegs.window_control {s t : State} (h : AgreesOffRegs s t) {off : Offset}
    (hcontrol : 16 ≤ off.toNat) (hseed : off ≠ 0x13#5) : t.window off = s.window off := by
  have hne : off.toNat ≠ 19 := fun he => hseed (BitVec.eq_of_toNat_eq he)
  simpa only [BitVec.ofNat_toNat, BitVec.setWidth_eq] using h.window_eq off.toNat hcontrol off.isLt hne

/-- Settles O22: a well-formed command writes its result and nothing else, and only a random command's
result includes the seed. -/
theorem legalCommandsKeepControlRegisters : Obligations.LegalCommandsKeepControlRegisters := by
  intro i s hwf
  have hfit := (Laws.groupsFit_eq_wellFormed i).trans hwf
  rcases exec_cases i s with ⟨-, x, hnext⟩ | ⟨hunfit, -⟩
  · have hx := x.agreesOffRegs s
    refine ⟨_, hnext, fun off hcontrol hseed => hx.window_control hcontrol hseed, fun hrandom => ?_,
      hx.cfg, hx.host, hx.resp⟩
    obtain ⟨t, hguarded, hkept⟩ := exec_eq_guarded_keeping_seed hrandom s
    cases hnext.symm.trans (hguarded.trans (guarded_of_fit hfit s t))
    exact hkept
  · cases hunfit.symm.trans hfit

end Sys2Proof.Machine

/-! ## The FixedPoint helpers: halves, orderings and products that fit -/

namespace Sys2Proof.Machine

open Sys2Proof.Safety

theorem ofNat_toNat_mul_eq_shiftLeft (a : Word) : BitVec.ofNat 32 (a.toNat * 65536) = a <<< 16 := by
  apply BitVec.eq_of_toNat_eq
  simp [BitVec.toNat_shiftLeft, Nat.shiftLeft_eq]

theorem toInt_bounds (w : Word) : -2147483648 ≤ w.toInt ∧ w.toInt < 2147483648 :=
  ⟨BitVec.le_toInt w, BitVec.toInt_lt⟩

/-- The fraction bits of a word are its value measured from its floor (40_fixed_point.md R66). -/
theorem toInt_fractionBits (w : Word) : ((w.extractLsb' 0 16).setWidth 32).toInt = w.toInt % 65536 := by
  have := w.isLt
  simp only [BitVec.toInt_eq_toNat_cond, BitVec.toNat_setWidth, BitVec.extractLsb'_toNat]
  split <;> split <;> omega

theorem fractionBits_eq_zero_iff (w : Word) : w.extractLsb' 0 16 = 0#16 ↔ w.toInt % 65536 = 0 := by
  have hwiden : (w.extractLsb' 0 16).setWidth 32 = 0#32 ↔ w.extractLsb' 0 16 = 0#16 := by
    simp only [← BitVec.toNat_inj, BitVec.toNat_setWidth, BitVec.toNat_ofNat]
    omega
  rw [← toInt_fractionBits, ← hwiden]
  exact (sv_eq_zero_iff _).symm

theorem toInt_round (w : Word) : (wrap32 (sar (sv w + 0x8000) 16)).toInt = (w.toInt + 32768) / 65536 := by
  obtain ⟨hle, hlt⟩ := toInt_bounds w
  rw [sar_eq, sv]
  exact toInt_wrap32 _ (by omega) (by omega)

theorem toInt_floor (w : Word) : (wrap32 (floorF (sv w))).toInt = w.toInt / 65536 := by
  obtain ⟨hle, hlt⟩ := toInt_bounds w
  rw [floorF_sv]
  exact toInt_wrap32 _ (by omega) (by omega)

/-- One more than the floor where a fraction bit is set is the negated floor of the negated value
(40_fixed_point.md R65). -/
theorem toInt_ceil (w : Word) :
    (wrap32 (sar (sv w) 16 + if w.extractLsb' 0 16 ≠ 0#16 then 1 else 0)).toInt = -(-w.toInt / 65536) := by
  obtain ⟨hle, hlt⟩ := toInt_bounds w
  have hceil : (sar (sv w) 16 + if w.extractLsb' 0 16 ≠ 0#16 then 1 else 0) = -(-w.toInt / 65536) := by
    rw [sar_eq, sv]
    by_cases hzero : w.extractLsb' 0 16 = 0#16
    · rw [if_neg (not_not.mpr hzero)]
      rw [fractionBits_eq_zero_iff] at hzero
      omega
    · rw [if_pos hzero]
      rw [fractionBits_eq_zero_iff] at hzero
      omega
  rw [hceil]
  exact toInt_wrap32 _ (by omega) (by omega)

theorem State.slt_reg (s : State) (q r : Reg) : (s.reg q).slt (s.reg r) = decide (s.sreg q < s.sreg r) :=
  BitVec.slt_eq_decide

theorem State.sle_reg (s : State) (q r : Reg) : (s.reg q).sle (s.reg r) = decide (s.sreg q ≤ s.sreg r) :=
  BitVec.sle_eq_decide

theorem orderWord_eq_neg_one_iff (a b : Int) : orderWord a b = 0xFFFFFFFF#32 ↔ a < b := by
  unfold orderWord
  split_ifs <;> simp <;> omega

theorem orderWord_eq_zero_iff (a b : Int) : orderWord a b = 0#32 ↔ a = b := by
  unfold orderWord
  split_ifs <;> simp <;> omega

theorem orderWord_eq_one_iff (a b : Int) : orderWord a b = 1#32 ↔ b < a := by
  unfold orderWord
  split_ifs <;> simp <;> omega

/-- Swapping the operands negates the ordering (40_fixed_point.md R69). -/
theorem orderWord_swap (a b : Int) : orderWord b a = -orderWord a b := by
  rcases lt_trichotomy a b with h | h | h
  · rw [(orderWord_eq_neg_one_iff a b).mpr h, (orderWord_eq_one_iff b a).mpr h]; rfl
  · rw [(orderWord_eq_zero_iff a b).mpr h, (orderWord_eq_zero_iff b a).mpr h.symm]; rfl
  · rw [(orderWord_eq_one_iff a b).mpr h, (orderWord_eq_neg_one_iff b a).mpr h]; rfl

/-- A product that fits is not narrowed: MUL_f is its floor (40_fixed_point.md R72). -/
theorem toInt_mulF_of_fits {a b : Word} (hlo : -(2 ^ 31) ≤ a.toInt * b.toInt / 65536)
    (hhi : a.toInt * b.toInt / 65536 < 2 ^ 31) : (mulF (sv a) (sv b)).toInt = a.toInt * b.toInt / 65536 := by
  rw [mulF, sar_eq]
  exact toInt_wrap32 _ hlo hhi

/-- Dividing the floored product by a divisor of at least 1.0 comes back within one: both roundings together
lose less than twice the divisor (40_fixed_point.md R72). -/
theorem natAbs_sub_le_one_of_isTruncQuot {a b q : Int} (hb : 65536 ≤ b.natAbs)
    (hq : IsTruncQuot (a * b / 65536 * 65536) b q) : (q - a).natAbs ≤ 1 := by
  obtain ⟨r, hdiv, hr, -, -⟩ := hq
  have hlost : (q - a) * b = -(a * b % 65536 + r) := by
    rw [sub_mul]; omega
  have hsize : (q - a).natAbs * b.natAbs < 2 * b.natAbs := by
    rw [← Int.natAbs_mul, hlost]; omega
  exact Nat.le_of_lt_succ (Nat.lt_of_mul_lt_mul_right hsize)

/-- The quotient of the floored product is no farther from zero than the multiplicand: rounding the product
moves it by less than the divisor, and the truncation moves it toward zero (40_fixed_point.md R72). -/
theorem natAbs_le_of_isTruncQuot {a b q : Int} (hb : 65536 ≤ b.natAbs)
    (hq : IsTruncQuot (a * b / 65536 * 65536) b q) : q.natAbs ≤ a.natAbs := by
  obtain ⟨r, hdiv, hr, hpos, hneg⟩ := hq
  have hquot : q * b = a * b / 65536 * 65536 - r := by omega
  have hsize : q.natAbs * b.natAbs < (a.natAbs + 1) * b.natAbs := by
    rw [add_mul, ← Int.natAbs_mul, ← Int.natAbs_mul, hquot]; omega
  exact Nat.le_of_lt_succ (Nat.lt_of_mul_lt_mul_right hsize)

end Sys2Proof.Machine

/-! ## The statements about FixedPoint -/

namespace Sys2Proof.Machine

open Sys2Proof.Safety

/-- Settles O28: each helper is the word operation, and each command writes its result alone. -/
theorem fromintAddSubtractWrap : Obligations.FromintAddSubtractWrap := by
  intro s rd rs1 rs2
  rw [ofNat_toNat_mul_eq_shiftLeft, ← fromIntF_sv, ← addF_sv, ← subF_sv]
  exact ⟨writes1_of_setReg rfl, writes1_of_setReg rfl, writes1_of_setReg rfl⟩

/-- Settles O29: the exact product narrowed is the 64-bit product shifted and narrowed. -/
theorem multiplyWidensAndFloors : Obligations.MultiplyWidensAndFloors := by
  intro s rd rs1 rs2
  rw [← mulF_sv]
  exact writes1_of_setReg rfl

/-- Settles O30: DIV_f is the FixedPoint quotient. -/
theorem divideTruncatesOrGivesZero : Obligations.DivideTruncatesOrGivesZero :=
  fun s _ rs1 rs2 => ⟨_, divF_isFixQuot (s.reg rs1) (s.reg rs2), writes1_of_setReg rfl⟩

/-- Settles O31: each result as an exact quotient by 65536, or as the remainder. -/
theorem roundFloorCeilFrac : Obligations.RoundFloorCeilFrac := by
  intro s rd rs1
  refine ⟨⟨_, ?_, writes1_of_setReg rfl⟩, ⟨_, ?_, writes1_of_setReg rfl⟩, ⟨_, ?_, writes1_of_setReg rfl⟩,
    ⟨_, ?_, writes1_of_setReg rfl⟩⟩
  · rw [State.sreg, toInt_round]; omega
  · rw [State.sreg, toInt_floor]; omega
  · rw [State.sreg, toInt_ceil]; omega
  · rw [toInt_fractionBits]; omega

/-- Settles O32: by the three branches of the clamp. -/
theorem clampIsSigned : Obligations.ClampIsSigned := by
  intro s rd rs1 rs2 rs3
  refine ⟨_, writes1_of_setReg rfl, ?_⟩
  simp only [State.slt_reg, State.sle_reg, decide_eq_true_eq, decide_eq_false_iff_not]
  refine ⟨fun hlo => if_pos hlo, fun hlo hhi => ?_, fun hlo hhi => ?_, fun hrange => ?_⟩
  · rw [if_neg hlo, if_pos hhi]
  · rw [if_neg hlo, if_neg hhi]
  · split_ifs <;> simp only [State.sle_reg, decide_eq_true_eq] <;> omega

/-- Settles O33: the word operations put together. -/
theorem lerpForm : Obligations.LerpForm := by
  intro s rd rs1 rs2 rs3
  rw [← subF_sv, ← mulF_sv, ← addF_sv]
  exact writes1_of_setReg rfl

/-- Settles O34: each value of the ordering as an exact condition on the signed values. -/
theorem compareIsThreeValued : Obligations.CompareIsThreeValued := by
  intro s rd rs1 rs2
  refine ⟨orderWord (s.sreg rs1) (s.sreg rs2), writes1_of_setReg rfl, ?_, ?_, ?_, ?_⟩
  · rw [← orderWord_swap]
    exact writes1_of_setReg rfl
  · rw [orderWord_eq_neg_one_iff, State.slt_reg, decide_eq_true_eq]
  · rw [orderWord_eq_zero_iff]; exact BitVec.toInt_inj
  · rw [orderWord_eq_one_iff, State.slt_reg, decide_eq_true_eq]

/-- Settles O35: narrowing keeps sums, and the shift distributes over them. -/
theorem fromintIsAdditive : Obligations.FromintIsAdditive := by
  intro a b
  rw [addF_sv]
  simp only [fromIntF, wrap32, shl, add_mul, BitVec.ofInt_add]

/-- Settles O36: the quotient is within one of the multiplicand and no farther from zero, so it is not
narrowed. -/
theorem divideUndoesMultiply : Obligations.DivideUndoesMultiply := by
  refine ⟨fun a b hb hlo hhi => ?_, by decide, by decide⟩
  have hquot := divF_isFixQuot (mulF (sv a) (sv b)) b
  have hb0 : b ≠ 0#32 := by rintro rfl; simp at hb
  rw [IsFixQuot, if_neg hb0, toInt_mulF_of_fits hlo hhi] at hquot
  obtain ⟨q, hq, hw⟩ := hquot
  have hclose := natAbs_sub_le_one_of_isTruncQuot hb hq
  have hsize := natAbs_le_of_isTruncQuot hb hq
  obtain ⟨hle, hlt⟩ := toInt_bounds a
  rwa [hw, ← wrap32, toInt_wrap32 q (by omega) (by omega)]

end Sys2Proof.Machine

/-! ## The angle helpers: the quarter wave and the octants -/

namespace Sys2Proof.Machine

open Sys2Proof.Safety

/-- The sine at the canonical angle `a`, with the negation as the word operation (41_angle.md R75). `sinF_sv`
ties it to `sinF`. -/
def quarterWave (c : Config) (a : Nat) : Word :=
  if a < 64 then sinEntry c a
  else if a < 128 then sinEntry c (128 - a)
  else if a < 192 then -sinEntry c (a - 128)
  else -sinEntry c (256 - a)

theorem wrap32_neg_sv (w : Word) : wrap32 (-sv w) = -w := by
  rw [wrap32, BitVec.ofInt_neg, sv, BitVec.ofInt_toInt]

theorem sinF_sv (c : Config) (w : Word) : sinF c (sv w) = quarterWave c (w.toNat % 256) := by
  simp only [sinF, canonicalAngle_sv, wrap32_neg_sv, quarterWave]

/-- A negated quarter stands half a turn after the quarter it negates, and half a turn more leads back to that
quarter (41_angle.md R85). -/
theorem quarterWave_half_turn (c : Config) {a : Nat} (ha : a < 256) :
    quarterWave c ((a + 128) % 256) = -quarterWave c a := by
  unfold quarterWave
  by_cases hhalf : a < 128
  · rw [Nat.mod_eq_of_lt (by omega : a + 128 < 256), if_neg (by omega), if_neg (by omega)]
    by_cases hquarter : a < 64
    · rw [if_pos (by omega), if_pos hquarter, Nat.add_sub_cancel]
    · rw [if_neg (by omega), if_neg hquarter, if_pos hhalf, show 256 - (a + 128) = 128 - a by omega]
  · rw [show (a + 128) % 256 = a - 128 by omega, if_neg (by omega : ¬ a < 64), if_neg hhalf]
    by_cases hquarter : a < 192
    · rw [if_pos (by omega), if_pos hquarter, BitVec.neg_neg]
    · rw [if_neg (by omega), if_pos (by omega), if_neg hquarter, BitVec.neg_neg,
        show 128 - (a - 128) = 256 - a by omega]

theorem cosF_sv (c : Config) (w : Word) : cosF c (sv w) = sinF c (sv (w + 64#32)) := by
  rw [← addF_sv]; rfl

/-- The constraint on the table is that the sine of 0 is 0 (41_angle.md R74, R85). -/
theorem sinEntry_zero {c : Config} (h : c.legal = true) : sinEntry c 0 = 0#32 := by
  simpa [Config.legal, sinEntry, Vector.getD] using h

theorem octantAngle_eq {k mn mx r : Int} (hr : r = mn * 65536 / mx) :
    octantAngle k mn mx = (32 * r + k * r * (65536 - r) / 2 ^ 32 + 32768) / 65536 := by
  simp [octantAngle, shl, sar_eq, hr]

theorem octantAngle_axis (k mx : Int) : octantAngle k 0 mx = 0 := by
  simp [octantAngle_eq (r := 0)]

/-- On the diagonal the ratio is 1 and the quadratic correction vanishes (41_angle.md R80). -/
theorem octantAngle_diagonal (k : Int) {m : Int} (hm : 0 < m) : octantAngle k m m = 32 := by
  simp [octantAngle_eq (r := 65536) (Int.mul_ediv_cancel_left _ hm.ne').symm]

/-- The full-turn angle of an octant angle `a`, by the order of the magnitudes and by the signs
(41_angle.md R80). `atan2Ref_eq_unfoldOctant` ties it to `atan2Ref`. -/
def unfoldOctant (y x a : Int) : Int :=
  let t := if |y| ≤ |x| then a else 64 - a
  let u := if x < 0 then 128 - t else t
  if y < 0 then (256 - u) % 256 else u

theorem atan2Ref_origin (k : Int) : atan2Ref k 0 0 = 0 := rfl

theorem atan2Ref_eq_unfoldOctant (k : Int) {y x : Int} (h : ¬(x = 0 ∧ y = 0)) :
    atan2Ref k y x = unfoldOctant y x (octantAngle k (min |x| |y|) (max |x| |y|)) := by
  simp only [atan2Ref, if_neg h, Int.natCast_natAbs, ge_iff_le, unfoldOctant]

theorem unfoldOctant_range (y x : Int) {a : Int} (h0 : 0 ≤ a) (h1 : a ≤ 32) :
    0 ≤ unfoldOctant y x a ∧ unfoldOctant y x a < 256 := by
  simp only [unfoldOctant]
  split_ifs <;> omega

theorem atan2Ref_range {k : Int} (hk : -(2 ^ 21) ≤ k) (hk' : k ≤ 2 ^ 21) (y x : Int) :
    0 ≤ atan2Ref k y x ∧ atan2Ref k y x < 256 := by
  by_cases h : x = 0 ∧ y = 0
  · obtain ⟨rfl, rfl⟩ := h
    simp [atan2Ref_origin]
  · rw [atan2Ref_eq_unfoldOctant k h]
    have hmx : 0 < max |x| |y| := by
      rcases not_and_or.mp h with hx | hy
      · exact lt_max_of_lt_left (abs_pos.mpr hx)
      · exact lt_max_of_lt_right (abs_pos.mpr hy)
    obtain ⟨h0, h1⟩ := octantAngle_range k (min |x| |y|) (max |x| |y|) hk hk'
      (le_min (abs_nonneg x) (abs_nonneg y)) min_le_max hmx
    exact unfoldOctant_range y x h0 h1

theorem atan2Ref_x_axis (k : Int) {x : Int} (hx : x ≠ 0) :
    atan2Ref k 0 x = if x < 0 then 128 else 0 := by
  rw [atan2Ref_eq_unfoldOctant k (fun h => hx h.1), abs_zero, min_eq_right (abs_nonneg x), octantAngle_axis]
  simp [unfoldOctant]

theorem atan2Ref_y_axis (k : Int) {y : Int} (hy : y ≠ 0) :
    atan2Ref k y 0 = if y < 0 then 192 else 64 := by
  rw [atan2Ref_eq_unfoldOctant k (fun h => hy h.2), abs_zero, min_eq_left (abs_nonneg y), octantAngle_axis]
  simp [unfoldOctant, hy]

theorem atan2Ref_diagonal (k : Int) {x : Int} (hx : x ≠ 0) :
    atan2Ref k x x = if x < 0 then 160 else 32 := by
  rw [atan2Ref_eq_unfoldOctant k (fun h => hx h.1), min_self, max_self,
    octantAngle_diagonal k (abs_pos.mpr hx)]
  by_cases hneg : x < 0 <;> simp [unfoldOctant, hneg]

/-- The narrowing keeps a canonical angle (41_angle.md R79 property 2). -/
theorem toNat_wrap32_lt {v : Int} (h : 0 ≤ v ∧ v < 256) : (wrap32 v).toNat < 256 := by
  rw [wrap32, BitVec.toNat_ofInt]
  omega

theorem atan2F_other_lt (c : Config) (n : Nat) (h : c.atan2 = .other n) (y x : Word) :
    (atan2F c y x).toNat < 256 := by
  have hbyte := (Config.atan2Other n y x).isLt
  simp only [atan2F, h, BitVec.toNat_setWidth]
  omega

/-- Where ATAN2_FN is ATAN2_REF, ATAN2 writes its value narrowed, and nothing else (41_angle.md R79, R80). -/
theorem writes1_atan2_ref {s : State} (h : s.cfg.atan2 = .ref) (rd rs1 rs2 : Reg) :
    Writes1 (.atan2 rd rs1 rs2) s rd (wrap32 (atan2Ref s.cfg.atanK (s.sreg rs1) (s.sreg rs2))) :=
  atan2F_ref s.cfg _ _ h ▸ writes1_of_setReg rfl

end Sys2Proof.Machine

/-! ## The statements about angles -/

namespace Sys2Proof.Machine

open Sys2Proof.Safety

/-- Settles O39: the quarter wave at the low 8 bits, quarter by quarter. -/
theorem sineQuarterWave : Obligations.SineQuarterWave := by
  intro s rd rs1 a ha
  have hsin : Writes1 (.sin rd rs1) s rd (quarterWave s.cfg a) := by
    rw [ha, ← sinF_sv]
    exact writes1_of_setReg rfl
  unfold quarterWave at hsin
  refine ⟨fun h => ?_, fun h h' => ?_, fun h h' => ?_, fun h => ?_⟩
  · rwa [if_pos h] at hsin
  · rwa [if_neg (by omega), if_pos h'] at hsin
  · rwa [if_neg (by omega), if_neg (by omega), if_pos h'] at hsin
  · rwa [if_neg (by omega), if_neg (by omega), if_neg (by omega)] at hsin

/-- Settles O40: the cosine is the sine a quarter turn on, and the tangent branches on it. -/
theorem cosineAndTangent : Obligations.CosineAndTangent := by
  rintro s rd rs1 sin cos hsin hcos
  have hcosF : cosF s.cfg (s.sreg rs1) = cos := (cosF_sv s.cfg _).trans hcos.symm
  have htan : Writes1 (.tan rd rs1) s rd
      (if sv cos = 0 then s.cfg.tanSat else divF (sv sin) (sv cos)) := by
    rw [← hcosF, hsin]
    exact writes1_of_setReg rfl
  simp only [sv_eq_zero_iff] at htan
  refine ⟨hcosF ▸ writes1_of_setReg rfl, fun hpole => ?_, fun hfinite => ⟨_, divF_isFixQuot sin cos, ?_⟩⟩
  · rwa [if_pos hpole] at htan
  · rwa [if_neg hfinite] at htan

/-- Settles O41: the sine is the quarter wave at the low 8 bits, which half a turn negates. -/
theorem sineLaws : Obligations.SineLaws := by
  intro c a b hlegal
  refine ⟨?_, cosF_sv c a, sinEntry_zero hlegal, fun hlow => ?_⟩
  · have hturn : (a + 128#32).toNat % 256 = (a.toNat % 256 + 128) % 256 := by
      rw [BitVec.toNat_add]; norm_num
    rw [sinF_sv, sinF_sv, hturn, quarterWave_half_turn c (Nat.mod_lt _ (by decide)), BitVec.neg_neg]
  · rw [sinF_sv, sinF_sv, hlow]

/-- Settles O42: the function is `atan2F`, canonical by its 8 bits or by the range of ATAN2_REF. -/
theorem arctangentIsCanonical : Obligations.ArctangentIsCanonical := by
  intro c
  refine ⟨atan2F c, fun hrange y x => ?_, ?_⟩
  · cases hfn : c.atan2 with
    | ref =>
      obtain ⟨hk, hk'⟩ := hrange hfn
      rw [atan2F_ref c y x hfn]
      exact toNat_wrap32_lt (atan2Ref_range hk hk' _ _)
    | other n => exact atan2F_other_lt c n hfn y x
  · rintro s rd rs1 rs2 rfl
    exact writes1_of_setReg rfl

/-- Settles O43: the octant formula unfolded; on the axes the ratio is 0 and on the diagonal it is 1. -/
theorem defaultArctangent : Obligations.DefaultArctangent := by
  intro s rd rs1 rs2 y x hfn hy hx
  have hwrites := writes1_atan2_ref hfn rd rs1 rs2
  rw [State.sreg, State.sreg, sv, sv, ← hy, ← hx] at hwrites
  have hvalue {v : Int} (h : atan2Ref s.cfg.atanK y x = v) : Writes1 (.atan2 rd rs1 rs2) s rd (wrap32 v) :=
    h ▸ hwrites
  refine ⟨?_, ?_, ?_, ?_, ?_, ?_, ?_, ?_⟩
  · rintro ⟨rfl, rfl⟩
    exact hvalue (atan2Ref_origin _)
  · intro horigin r a t u v hr ha ht hu hv hlo hhi
    have hunfold : atan2Ref s.cfg.atanK y x = v := by
      rw [atan2Ref_eq_unfoldOctant _ horigin, octantAngle_eq hr, ← ha, hv, hu, ht]
      rfl
    exact ⟨_, toInt_wrap32 v hlo hhi, hvalue hunfold⟩
  · rintro rfl hpos
    exact hvalue ((atan2Ref_x_axis _ hpos.ne').trans (if_neg hpos.not_gt))
  · rintro hpos rfl
    exact hvalue ((atan2Ref_y_axis _ hpos.ne').trans (if_neg hpos.not_gt))
  · rintro rfl hneg
    exact hvalue ((atan2Ref_x_axis _ hneg.ne).trans (if_pos hneg))
  · rintro hneg rfl
    exact hvalue ((atan2Ref_y_axis _ hneg.ne).trans (if_pos hneg))
  · rintro rfl hpos
    exact hvalue ((atan2Ref_diagonal _ hpos.ne').trans (if_neg hpos.not_gt))
  · rintro rfl hneg
    exact hvalue ((atan2Ref_diagonal _ hneg.ne).trans (if_pos hneg))

/-- Settles O44: each conversion is a product or a quotient of words, floored for an angle. -/
theorem angleConversions : Obligations.AngleConversions := by
  intro s rd rs1
  rw [← mulF_sv, ← mulF_sv, ← fromIntF_sv, ← wrap32_floorF_sv]
  refine ⟨writes1_of_setReg rfl, ⟨_, divF_isFixQuot _ _, writes1_of_setReg rfl⟩,
    ⟨_, divF_isFixQuot _ _, ?_⟩, writes1_of_setReg rfl⟩
  rw [← wrap32_floorF_sv]
  exact writes1_of_setReg rfl

end Sys2Proof.Machine

/-! ## Vector commands: the componentwise helpers on words, and what a fitting command writes -/

namespace Sys2Proof.Machine

open Sys2Proof.Safety

theorem add2_eq (a b : V2) : add2 a b = ⟨a.x + b.x, a.y + b.y⟩ := by
  simp only [add2, addF_sv]

theorem add3_eq (a b : V3) : add3 a b = ⟨a.x + b.x, a.y + b.y, a.z + b.z⟩ := by
  simp only [add3, addF_sv]

theorem sub2_eq (a b : V2) : sub2 a b = ⟨a.x - b.x, a.y - b.y⟩ := by
  simp only [sub2, subF_sv]

theorem sub3_eq (a b : V3) : sub3 a b = ⟨a.x - b.x, a.y - b.y, a.z - b.z⟩ := by
  simp only [sub3, subF_sv]

/-- A negation is the difference from 0, modulo 2^32 (42_vector.md R97). -/
theorem subF_zero_sv (a : Word) : subF 0 (sv a) = -a :=
  (subF_sv 0#32 a).trans (BitVec.zero_sub a)

theorem neg2_eq (a : V2) : neg2 a = ⟨-a.x, -a.y⟩ := by
  simp only [neg2, subF_zero_sv]

theorem neg3_eq (a : V3) : neg3 a = ⟨-a.x, -a.y, -a.z⟩ := by
  simp only [neg3, subF_zero_sv]

theorem scale2_sv (a : V2) (w : Word) : scale2 a (sv w) = ⟨mulVia64 a.x w, mulVia64 a.y w⟩ := by
  simp only [scale2, mulF_sv]

theorem scale3_sv (a : V3) (w : Word) :
    scale3 a (sv w) = ⟨mulVia64 a.x w, mulVia64 a.y w, mulVia64 a.z w⟩ := by
  simp only [scale3, mulF_sv]

theorem divs2_of_zero (a : V2) {w : Word} (h : w = 0#32) : divs2 a (sv w) = a :=
  if_pos ((sv_eq_zero_iff w).mpr h)

theorem divs3_of_zero (a : V3) {w : Word} (h : w = 0#32) : divs3 a (sv w) = a :=
  if_pos ((sv_eq_zero_iff w).mpr h)

theorem divs2_of_ne_zero (a : V2) {w : Word} (h : w ≠ 0#32) :
    divs2 a (sv w) = ⟨divF (sv a.x) (sv w), divF (sv a.y) (sv w)⟩ :=
  if_neg (mt (sv_eq_zero_iff w).mp h)

theorem divs3_of_ne_zero (a : V3) {w : Word} (h : w ≠ 0#32) :
    divs3 a (sv w) = ⟨divF (sv a.x) (sv w), divF (sv a.y) (sv w), divF (sv a.z) (sv w)⟩ :=
  if_neg (mt (sv_eq_zero_iff w).mp h)

theorem V2.eq_iff (a b : V2) : a = b ↔ a.x = b.x ∧ a.y = b.y := by
  cases a; cases b; simp only [V2.mk.injEq]

theorem V3.eq_iff (a b : V3) : a = b ↔ a.x = b.x ∧ a.y = b.y ∧ a.z = b.z := by
  cases a; cases b; simp only [V3.mk.injEq]

theorem boolWord_decide_of_pos {p : Prop} [Decidable p] (h : p) : boolWord (decide p) = 1#32 := by
  rw [decide_eq_true h]; rfl

theorem boolWord_decide_of_neg {p : Prop} [Decidable p] (h : ¬p) : boolWord (decide p) = 0#32 := by
  rw [decide_eq_false h]; rfl

/-- A product less the product of the same factors is 0: a component of `A x A` (42_vector.md R101). -/
theorem mulVia64_sub_self (a b : Word) : mulVia64 a b - mulVia64 b a = 0#32 := by
  rw [mulVia64_comm b a, BitVec.sub_self]

/-- A component of `B x A` is the negation of that of `A x B` (42_vector.md R101). -/
theorem mulVia64_sub_swap (a b c d : Word) :
    mulVia64 c b - mulVia64 d a = -(mulVia64 a d - mulVia64 b c) := by
  rw [mulVia64_comm c b, mulVia64_comm d a, neg_sub]

/-- A well-formed command is past the guard (10_state.md R20). -/
theorem exec_of_guarded {i : Instr} {s t : State} (h : exec i s = guarded i s t)
    (hwf : i.wellFormed = true) : exec i s = .next t :=
  h.trans (next_eq_guarded hwf s t).symm

/-- What a well-formed command with one result register writes, its result `r` known as the word `w`. -/
theorem writes1_of_guarded {i : Instr} {s : State} {d : Reg} {r w : Word}
    (h : exec i s = guarded i s (s.setReg d r)) (hr : r = w) (hwf : i.wellFormed = true) :
    Writes1 i s d w :=
  hr ▸ writes1_of_setReg (exec_of_guarded h hwf)

/-- What a well-formed command with a result group of 2 writes, its result known by components. -/
theorem writes2_of_guarded {i : Instr} {s : State} {d : Reg} {v : V2} {x y : Word}
    (h : exec i s = guarded i s (s.setV2 d v)) (hv : v = ⟨x, y⟩) (hwf : i.wellFormed = true)
    (hd : groupFits d 2 = true) : Writes2 i s d x y := by
  subst hv
  exact writes2_of_setV2 (exec_of_guarded h hwf) hd

/-- What a well-formed command with a result group of 3 writes, its result known by components. -/
theorem writes3_of_guarded {i : Instr} {s : State} {d : Reg} {v : V3} {x y z : Word}
    (h : exec i s = guarded i s (s.setV3 d v)) (hv : v = ⟨x, y, z⟩) (hwf : i.wellFormed = true)
    (hd : groupFits d 3 = true) : Writes3 i s d x y z := by
  subst hv
  exact writes3_of_setV3 (exec_of_guarded h hwf) hd

end Sys2Proof.Machine

/-! ## The statements about vectors -/

namespace Sys2Proof.Machine

open Sys2Proof.Safety

/-- Settles O47: each helper is the word operation on the components of the old registers. -/
theorem vectorAddSubtractNegate : Obligations.VectorAddSubtractNegate := by
  intro s rd a b
  refine ⟨fun hd ha hb => ?_, fun hd ha hb => ?_⟩
  · have hda := Bool.and_intro hd ha
    have hdab := Bool.and_intro hda hb
    exact ⟨writes2_of_guarded rfl (add2_eq _ _) hdab hd, writes2_of_guarded rfl (sub2_eq _ _) hdab hd,
      writes2_of_guarded rfl (neg2_eq _) hda hd⟩
  · have hda := Bool.and_intro hd ha
    have hdab := Bool.and_intro hda hb
    exact ⟨writes3_of_guarded rfl (add3_eq _ _) hdab hd, writes3_of_guarded rfl (sub3_eq _ _) hdab hd,
      writes3_of_guarded rfl (neg3_eq _) hda hd⟩

/-- Settles O48: each component is the exact product narrowed, which is the 64-bit product. -/
theorem vectorScale : Obligations.VectorScale := by
  intro s rd a b
  refine ⟨fun hd ha => ?_, fun hd ha => ?_⟩
  · exact writes2_of_guarded rfl (scale2_sv _ _) (Bool.and_intro hd ha) hd
  · exact writes3_of_guarded rfl (scale3_sv _ _) (Bool.and_intro hd ha) hd

/-- Settles O49: the scalar 0 gives the vector back, and any other divides each component by DIV_f. -/
theorem vectorDivide : Obligations.VectorDivide := by
  intro s rd a b
  refine ⟨fun hd ha => ?_, fun hd ha => ?_⟩
  · have hwf := Bool.and_intro hd ha
    refine ⟨fun hzero => writes2_of_guarded rfl (divs2_of_zero _ hzero) hwf hd, fun hne => ?_⟩
    exact ⟨_, _, divF_isFixQuot _ _, divF_isFixQuot _ _,
      writes2_of_guarded rfl (divs2_of_ne_zero _ hne) hwf hd⟩
  · have hwf := Bool.and_intro hd ha
    refine ⟨fun hzero => writes3_of_guarded rfl (divs3_of_zero _ hzero) hwf hd, fun hne => ?_⟩
    exact ⟨_, _, _, divF_isFixQuot _ _, divF_isFixQuot _ _, divF_isFixQuot _ _,
      writes3_of_guarded rfl (divs3_of_ne_zero _ hne) hwf hd⟩

/-- Settles O50: DOT_f is the sum of the 64-bit products, and LENSQ_f is DOT_f of a vector with itself. -/
theorem dotProductAndSquaredLength : Obligations.DotProductAndSquaredLength := by
  intro s rd a b
  refine ⟨fun ha => ⟨writes1_of_guarded rfl (dot2_eq _ _) ha, fun hb => ?_⟩,
    fun ha => ⟨writes1_of_guarded rfl (dot3_eq _ _) ha, fun hb => ?_⟩⟩
  · exact writes1_of_guarded rfl (dot2_eq _ _) (Bool.and_intro ha hb)
  · exact writes1_of_guarded rfl (dot3_eq _ _) (Bool.and_intro ha hb)

/-- Settles O51: the three differences of products, all of the old registers. -/
theorem crossProduct : Obligations.CrossProduct := by
  intro s rd a b hd ha hb
  have hda := Bool.and_intro hd ha
  exact writes3_of_guarded rfl (cross3_eq _ _) (Bool.and_intro hda hb) hd

/-- Settles O52: by the components of O51, since the product of words commutes. -/
theorem crossProductIsAlternating : Obligations.CrossProductIsAlternating := by
  intro s rd a b hd ha hb
  refine ⟨?_, _, _, _, crossProduct s rd a b hd ha hb, ?_⟩
  · have hself := crossProduct s rd a a hd ha ha
    rwa [mulVia64_sub_self, mulVia64_sub_self, mulVia64_sub_self] at hself
  · rw [← mulVia64_sub_swap, ← mulVia64_sub_swap, ← mulVia64_sub_swap]
    exact crossProduct s rd b a hd hb ha

/-- Settles O53: vectors are equal where their components are, and the Bool is written as a word. -/
theorem vectorEquality : Obligations.VectorEquality := by
  intro s rd a b
  rw [← V2.eq_iff, ← V3.eq_iff]
  refine ⟨fun ha hb => ?_, fun ha hb => ?_⟩
  · have hwf := Bool.and_intro ha hb
    exact ⟨fun heq => writes1_of_guarded rfl (boolWord_decide_of_pos heq) hwf,
      fun hne => writes1_of_guarded rfl (boolWord_decide_of_neg hne) hwf⟩
  · have hwf := Bool.and_intro ha hb
    exact ⟨fun heq => writes1_of_guarded rfl (boolWord_decide_of_pos heq) hwf,
      fun hne => writes1_of_guarded rfl (boolWord_decide_of_neg hne) hwf⟩

/-- Settles O54: LEN_f is the root of the squared length, taken for a distance of the difference. -/
theorem lengthAndDistance : Obligations.LengthAndDistance := by
  intro s rd a b
  refine ⟨fun ha => ⟨⟨_, len2_isFixRoot _, writes1_of_guarded rfl rfl ha⟩, ?_⟩,
    fun ha => ⟨⟨_, len3_isFixRoot _, writes1_of_guarded rfl rfl ha⟩, ?_⟩⟩
  · rintro hb d rfl
    exact ⟨_, len2_isFixRoot _,
      writes1_of_guarded rfl (congrArg len2 (sub2_eq _ _)) (Bool.and_intro ha hb)⟩
  · rintro hb d rfl
    exact ⟨_, len3_isFixRoot _,
      writes1_of_guarded rfl (congrArg len3 (sub3_eq _ _)) (Bool.and_intro ha hb)⟩

/-- Settles O55: NORM_f is the vector divided by its computed length. -/
theorem normalize : Obligations.Normalize := by
  intro s rd a
  refine ⟨fun hd ha => ⟨_, norm2_isNorm2 _, ?_⟩, fun hd ha => ⟨_, norm3_isNorm3 _, ?_⟩⟩
  · exact writes2_of_setV2 (exec_of_guarded rfl (Bool.and_intro hd ha)) hd
  · exact writes3_of_setV3 (exec_of_guarded rfl (Bool.and_intro hd ha)) hd

end Sys2Proof.Machine

/-! ## The integer root: guesses that stay above the floor of the exact root -/

namespace Sys2Proof.Machine

open Sys2Proof.Safety

/-- The invariant of the guesses of ISQRT from n = 2 on: positive, at most the operand (so a register holds
it), and at least the floor of the exact root. -/
structure IsRootGuess (n g : Int) : Prop where
  pos : 0 < g
  le : g ≤ n
  lt_succ_sq : n < (g + 1) * (g + 1)

theorem isRootGuess_half {n : Int} (h : 2 ≤ n) : IsRootGuess n (n / 2) := by
  have hpos : 0 < n / 2 := by omega
  have hodd : n < 2 * (n / 2) + 2 := by omega
  exact ⟨hpos, by omega, by nlinarith⟩

/-- Half the sum of a guess and its quotient is a guess again: with `q = n / g`, `n < (q + 1) * g`, and by the
inequality of the means that product is at most the square of half of `g + q + 1`. -/
theorem IsRootGuess.step {n g : Int} (h : IsRootGuess n g) : IsRootGuess n ((g + n.tdiv g) / 2) := by
  obtain ⟨hpos, hle, -⟩ := h
  rw [Int.tdiv_eq_ediv_of_nonneg (by omega)]
  have hq_pos : 1 ≤ n / g := (Int.le_ediv_iff_mul_le hpos).mpr (by omega)
  have hq_le : n / g ≤ n := Int.ediv_le_self g (by omega)
  have hn_lt : n < (n / g + 1) * g := Int.lt_ediv_add_one_mul_self n hpos
  refine ⟨by omega, by omega, ?_⟩
  have hhalf : g + n / g + 1 ≤ 2 * ((g + n / g) / 2 + 1) := by omega
  have hmeans : 4 * ((n / g + 1) * g) ≤ (g + n / g + 1) * (g + n / g + 1) := by
    nlinarith [sq_nonneg (n / g + 1 - g)]
  have hsq := mul_self_le_mul_self (by omega) hhalf
  linarith

theorem isRootGuess_newtonSteps {n : Int} (k : Nat) {g : Int} (h : IsRootGuess n g) :
    IsRootGuess n (newtonSteps (fun g => tdiv n g) k g) := by
  induction k generalizing g with
  | zero => exact h
  | succ k ih =>
    rw [newtonSteps, if_neg h.pos.ne', sar_eq]
    exact ih h.step

theorem isqrtF_of_nonpos {n : Int} (h : n ≤ 0) : isqrtF n = 0 := if_pos h

theorem isqrtF_of_pos {n : Int} (h : 0 < n) : isqrtF n = newtonSteps (fun g => tdiv n g) 8 (n / 2) := by
  rw [isqrtF, if_neg (by omega), if_neg (by omega), sar_eq]
  rfl

/-- The first guess for 1 is 0, where the zero guard stays (43_sqrt.md R116, R118). -/
theorem isqrtF_one : isqrtF 1 = 0 := by decide

theorem isqrtF_isRootGuess {n : Int} (h : 2 ≤ n) : IsRootGuess n (isqrtF n) := by
  rw [isqrtF_of_pos (by omega)]
  exact isRootGuess_newtonSteps 8 (isRootGuess_half h)

theorem isqrtF_of_le_one {n : Int} (h : n ≤ 1) : isqrtF n = 0 := by
  obtain hneg | rfl : n ≤ 0 ∨ n = 1 := by omega
  · exact isqrtF_of_nonpos hneg
  · exact isqrtF_one

/-- The register holds the integer root itself, never a reduction of it modulo 2^32. -/
theorem toInt_wrap32_isqrtF (w : Word) : (wrap32 (isqrtF w.toInt)).toInt = isqrtF w.toInt := by
  by_cases h : w.toInt ≤ 1
  · rw [isqrtF_of_le_one h]; rfl
  · obtain ⟨hpos, hle, -⟩ := isqrtF_isRootGuess (n := w.toInt) (by omega)
    have hmax := (toInt_bounds w).2
    exact toInt_wrap32 _ (by omega) (by omega)

end Sys2Proof.Machine

/-! ## The statements about square roots -/

namespace Sys2Proof.Machine

open Sys2Proof.Safety

/-- Settles O37: FSQRT_f is the last of the nine guesses. -/
theorem fixedRootIsEightNewtonSteps : Obligations.FixedRootIsEightNewtonSteps :=
  fun s _ rs1 => ⟨_, fsqrtF_isFixRoot (s.reg rs1), writes1_of_setReg rfl⟩

/-- Settles O38: the guesses from 2 on keep `IsRootGuess`, and operands up to 1 give 0. -/
theorem integerRootIsEightNewtonSteps : Obligations.IntegerRootIsEightNewtonSteps := by
  intro s rd rs1
  refine ⟨wrap32 (isqrtF (s.reg rs1).toInt), writes1_of_setReg rfl, ?_⟩
  rw [toInt_wrap32_isqrtF]
  refine ⟨fun hsmall => ?_, fun hpos => ?_, fun htwo => ?_⟩
  · rw [isqrtF_of_le_one hsmall]; rfl
  · rw [isqrtF_of_pos hpos]
    exact newtonSteps_isNewtonRoot _ _
  · have hguess := isqrtF_isRootGuess htwo
    exact ⟨hguess.pos, hguess.lt_succ_sq⟩

end Sys2Proof.Machine

/-! ## Projection: the helpers on words, and what a fitting projection writes -/

namespace Sys2Proof.Machine

open Sys2Proof.Safety

theorem depthWord_eq_orderWord (za zb : Int) : depthWord za zb = orderWord zb za := by
  rcases lt_trichotomy za zb with hnearer | rfl | hfarther
  · simp [depthWord, orderWord, hnearer, hnearer.not_gt, hnearer.ne']
  · simp [depthWord, orderWord]
  · simp [depthWord, orderWord, hfarther]

theorem spriteScaleF_of_nonpos {d : Int} (h : d ≤ 0) (bd bs : Int) : spriteScaleF d bd bs = bs := if_pos h

/-- The clamp to [SPR_MIN, SPR_MAX] as a maximum and a minimum (44_projection.md R124). -/
theorem spriteScaleF_of_pos {d : Int} (h : 0 < d) (bd bs : Int) :
    spriteScaleF d bd bs = max 1 (min 512 (bs * sv (divF bd d) / 65536)) := by
  simp only [spriteScaleF, if_neg h.not_ge, sar_eq, sprMin, sprMax]
  norm_num
  split_ifs <;> omega

theorem slt_iff_sv_lt (a b : Word) : a.slt b = true ↔ sv a < sv b := BitVec.slt_iff_toInt_lt

/-- The greater of two words, chosen by the signed comparison of words. -/
theorem max_sv (a b : Word) : max (sv a) (sv b) = sv (if a.slt b = true then b else a) := by
  simp only [slt_iff_sv_lt]
  split_ifs with h
  · exact max_eq_right h.le
  · exact max_eq_left (not_lt.mp h)

/-- The depth outside [near, far] makes the point invisible; inside, near / depth is the scale
(44_projection.md R122). -/
theorem projectF_eq {s : State} {p rel : V3} {depth : Word} (hrel : sub3 p s.camPos = rel)
    (hdepth : dot3 rel (norm3 (sub3 s.camTarget s.camPos)) = depth) :
    projectF s p =
      if sv depth < sv s.camNear ∨ sv s.camFar < sv depth then invisible
      else screenF s (sv rel.x) (sv rel.y) (sv (divF (sv s.camNear) (sv depth))) := by
  subst hrel hdepth
  rfl

theorem projectSimpleF_of_behind (s : State) {p : V3} (h : p.z.slt 0#32 = true) (base : Int) :
    projectSimpleF s p base = invisible :=
  if_pos ((slt_iff_sv_lt p.z 0#32).mp h)

/-- In front of the viewer the depth `base + z` is raised to DEPTH_MIN where it is below
(44_projection.md R123). -/
theorem projectSimpleF_of_front {s : State} {p : V3} {base depth : Word} (h : p.z.slt 0#32 = false)
    (hdepth : depth = if (base + p.z).slt s.cfg.depthMin then s.cfg.depthMin else base + p.z) :
    projectSimpleF s p (sv base) = screenF s (sv p.x) (sv p.y) (sv (divF (sv base) (sv depth))) := by
  have hfront : ¬sv p.z < 0 := mt (slt_iff_sv_lt p.z 0#32).mpr (Bool.eq_false_iff.mp h)
  rw [projectSimpleF, if_neg hfront, addF_sv, max_sv, ← hdepth]

/-- What a well-formed projection writes where the point is invisible (44_projection.md R120). -/
theorem writes4_of_invisible {i : Instr} {s : State} {d : Reg} {p : ProjectionResult}
    (h : exec i s = guarded i s (s.setProjection d p)) (hp : p = invisible) (hwf : i.wellFormed = true)
    (hd : groupFits d 4 = true) : Writes4 i s d 0#32 0#32 0#32 0#32 := by
  subst hp
  exact writes4_of_setProjection (exec_of_guarded h hwf) hd

/-- What a well-formed projection writes where it reaches the viewport test (44_projection.md R121). -/
theorem writes4_of_screenF {i : Instr} {s : State} {d : Reg} {p : ProjectionResult} {px py scale : Word}
    (h : exec i s = guarded i s (s.setProjection d p)) (hp : p = screenF s (sv px) (sv py) (sv scale))
    (hwf : i.wellFormed = true) (hd : groupFits d 4 = true) :
    (onScreen s (screenPoint s px py scale) →
      Writes4 i s d (BitVec.ofInt 32 (screenPoint s px py scale).1)
        (BitVec.ofInt 32 (screenPoint s px py scale).2) scale 1#32) ∧
    (¬onScreen s (screenPoint s px py scale) → Writes4 i s d 0#32 0#32 0#32 0#32) := by
  obtain ⟨hinside, houtside⟩ := screenF_cases s px py scale
  refine ⟨fun hon => ?_, fun hoff => writes4_of_invisible h (hp.trans (houtside hoff)) hwf hd⟩
  have hwrites := writes4_of_setProjection (exec_of_guarded h hwf) hd
  rwa [hp.trans (hinside hon), wrap32_sv] at hwrites

/-- What 44_projection.md R120 and R121 ask of every result: four zeros, or visible and on the widened screen.
`screenF_zeroOrOnScreen` and the lemmas after it tie it to the model. -/
def ZeroOrOnScreen (s : State) (p : ProjectionResult) : Prop :=
  p = invisible ∨ (p.visible = true ∧ onScreen s (p.screenX, p.screenY))

theorem screenF_zeroOrOnScreen (s : State) (px py scale : Word) :
    ZeroOrOnScreen s (screenF s (sv px) (sv py) (sv scale)) := by
  obtain ⟨hinside, houtside⟩ := screenF_cases s px py scale
  by_cases hon : onScreen s (screenPoint s px py scale)
  · rw [hinside hon]
    exact .inr ⟨rfl, hon⟩
  · exact .inl (houtside hon)

theorem projectF_zeroOrOnScreen (s : State) (p : V3) : ZeroOrOnScreen s (projectF s p) := by
  rw [projectF_eq rfl rfl]
  split
  · exact .inl rfl
  · exact screenF_zeroOrOnScreen s _ _ _

theorem projectSimpleF_zeroOrOnScreen (s : State) (p : V3) (base : Word) :
    ZeroOrOnScreen s (projectSimpleF s p (sv base)) := by
  cases hz : p.z.slt 0#32
  · rw [projectSimpleF_of_front hz rfl]
    exact screenF_zeroOrOnScreen s _ _ _
  · exact .inl (projectSimpleF_of_behind s hz _)

/-- A point on the widened screen is the same after its coordinates are narrowed to registers. -/
theorem onScreen_wrap32 {s : State} {x y : Int} (h : onScreen s (x, y)) :
    onScreen s ((wrap32 x).toInt, (wrap32 y).toInt) := by
  have hw := s.screenW.isLt
  have hh := s.screenH.isLt
  obtain ⟨hx, hx', hy, hy'⟩ := h
  rw [toInt_wrap32 x (by omega) (by omega), toInt_wrap32 y (by omega) (by omega)]
  exact ⟨hx, hx', hy, hy'⟩

end Sys2Proof.Machine

/-! ## The statements about projection -/

namespace Sys2Proof.Machine

open Sys2Proof.Safety

/-- Settles O56: the depth decides between the invisible result and the viewport test. -/
theorem cameraProjection : Obligations.CameraProjection := by
  intro s rd rs1 hd ha
  have hwf : (Instr.proj rd rs1).wellFormed = true := Bool.and_intro hd ha
  refine ⟨norm3 (sub3 s.camTarget s.camPos), divF (sv s.camNear)
    (sv (dot3 (sub3 (s.v3 rs1) s.camPos) (norm3 (sub3 s.camTarget s.camPos)))), ?_⟩
  rintro rel depth hrel hdepth
  have hrel' := (sub3_eq (s.v3 rs1) s.camPos).trans hrel.symm
  have hdepth' := (dot3_eq rel (norm3 (sub3 s.camTarget s.camPos))).trans hdepth.symm
  have hproject := projectF_eq hrel' hdepth'
  rw [hrel', hdepth']
  simp only [slt_iff_sv_lt, BitVec.sle_iff_toInt_le]
  refine ⟨sub3_eq s.camTarget s.camPos ▸ norm3_isNorm3 _, divF_isFixQuot _ _, fun hout => ?_,
    fun hnear hfar => ?_⟩
  · exact writes4_of_invisible rfl (hproject.trans (if_pos hout)) hwf hd
  · have hin : ¬(sv depth < sv s.camNear ∨ sv s.camFar < sv depth) := not_or.mpr ⟨hnear.not_gt, hfar.not_gt⟩
    exact writes4_of_screenF rfl (hproject.trans (if_neg hin)) hwf hd

/-- Settles O57: the sign of z decides between the invisible result and the viewport test. -/
theorem simpleProjection : Obligations.SimpleProjection := by
  intro s rd rs1 rs2 depth hd ha hdepth
  have hwf : (Instr.projs rd rs1 rs2).wellFormed = true := Bool.and_intro hd ha
  refine ⟨fun hbehind => ?_, fun hfront => ⟨_, divF_isFixQuot _ _, ?_⟩⟩
  · exact writes4_of_invisible rfl (projectSimpleF_of_behind s hbehind _) hwf hd
  · exact writes4_of_screenF rfl (projectSimpleF_of_front hfront hdepth) hwf hd

/-- Settles O58: both strategies answer `ZeroOrOnScreen`, and the registers hold such a result unnarrowed. -/
theorem projectionResultIsZeroOrOnScreen : Obligations.ProjectionResultIsZeroOrOnScreen := by
  intro i s rd rs1 rs2 hd ha hi
  obtain ⟨p, hexec, hp⟩ : ∃ p, exec i s = .next (s.setProjection rd p) ∧ ZeroOrOnScreen s p := by
    have hwf := Bool.and_intro hd ha
    rcases hi with rfl | rfl
    · exact ⟨_, exec_of_guarded rfl hwf, projectF_zeroOrOnScreen s _⟩
    · exact ⟨_, exec_of_guarded rfl hwf, projectSimpleF_zeroOrOnScreen s _ _⟩
  obtain ⟨t, hnext, hx, hy, hscale, hvisible, -⟩ := writes4_of_setProjection hexec hd
  refine ⟨t, hnext, ?_⟩
  rw [hx, hy, hscale, hvisible]
  rcases hp with rfl | ⟨hvis, hon⟩
  · exact .inl ⟨rfl, rfl, rfl, rfl⟩
  · exact .inr ⟨congrArg boolWord hvis, onScreen_wrap32 hon⟩

/-- Settles O59: by the sign of the distance; a clamped scale is not narrowed. -/
theorem spriteScale : Obligations.SpriteScale := by
  intro s rd rs1 rs2 rs3
  have hwrites : Writes1 (.sprscale rd rs1 rs2 rs3) s rd
      (wrap32 (spriteScaleF (s.sreg rs1) (s.sreg rs2) (s.sreg rs3))) := writes1_of_setReg rfl
  refine ⟨fun hnonpos => ?_, fun hpos => ⟨_, _, divF_isFixQuot _ _, hwrites, ?_⟩⟩
  · rwa [spriteScaleF_of_nonpos (d := s.sreg rs1) hnonpos, State.sreg, wrap32_sv] at hwrites
  · rw [spriteScaleF_of_pos (d := s.sreg rs1) hpos]
    exact toInt_wrap32 _ (by omega) (by omega)

/-- Settles O60: the depth order is the order of FCMP with its operands swapped. -/
theorem depthOrderIsAntisymmetric : Obligations.DepthOrderIsAntisymmetric := by
  intro s rd a b ha hb
  refine ⟨orderWord (sv (s.v3 b).z) (sv (s.v3 a).z),
    writes1_of_guarded rfl (depthWord_eq_orderWord _ _) (Bool.and_intro ha hb),
    writes1_of_guarded rfl ((depthWord_eq_orderWord _ _).trans (orderWord_swap _ _)) (Bool.and_intro hb ha),
    writes1_of_guarded rfl ((depthWord_eq_orderWord _ _).trans ((orderWord_eq_zero_iff _ _).mpr rfl))
      (Bool.and_intro ha ha), fun hfarther => ?_, fun hnearer => ?_, fun htie => ?_⟩
  · exact (orderWord_eq_neg_one_iff _ _).mpr ((slt_iff_sv_lt _ _).mp hfarther)
  · exact (orderWord_eq_one_iff _ _).mpr ((slt_iff_sv_lt _ _).mp hnearer)
  · exact (orderWord_eq_zero_iff _ _).mpr (congrArg sv htie.symm)

end Sys2Proof.Machine

/-! ## The statements about the random commands -/

namespace Sys2Proof.Machine

open Sys2Proof.Safety

/-- The two states agree on all that a random command reads (45_random.md R130 to R135). -/
structure SameGenerator (s t : State) : Prop where
  cfg : t.cfg = s.cfg
  rngSeed : t.rngSeed = s.rngSeed
  regs : t.regs = s.regs

/-- The same write into both states keeps them in agreement. -/
theorem SameGenerator.setRandom {s t : State} (h : SameGenerator s t) (d : Reg) (w : Word) :
    SameGenerator (s.setRandom d w) (t.setRandom d w) where
  cfg := h.cfg
  rngSeed := congrArg₂ rngNext h.cfg h.rngSeed
  regs := congrArg (fun regs : Vector Word 16 => regs.set d.val w d.isLt) h.regs

/-- A random command writes one register and the next seed, and the same word into the same register in
two states that agree on what it reads. The cases are its four results. -/
theorem exec_random_same {i : Instr} (hrandom : isRandom i = true) {s t : State} (h : SameGenerator s t) :
    ∃ d w, exec i s = .next (s.setRandom d w) ∧ exec i t = .next (t.setRandom d w) := by
  obtain ⟨⟩ := s
  obtain ⟨⟩ := t
  obtain ⟨rfl, rfl, rfl⟩ := h
  cases i with
  | rint | rrange | rbool | rfix => exact ⟨_, _, rfl, rfl⟩
  | _ => cases hrandom

theorem exec_random {i : Instr} (hrandom : isRandom i = true) (s : State) :
    ∃ d w, exec i s = .next (s.setRandom d w) :=
  let ⟨d, w, hexec, _⟩ := exec_random_same hrandom (s := s) (t := s) ⟨rfl, rfl, rfl⟩
  ⟨d, w, hexec⟩

theorem execAll_cons_of_next {i : Instr} {s t : State} (h : exec i s = .next t) (is : List Instr) :
    execAll (i :: is) s = execAll is t := by
  simp only [execAll, h]

/-- A list of random commands leaves agreeing states in agreement. -/
theorem execAll_random_same {is : List Instr} (his : ∀ i ∈ is, isRandom i = true) {s s' : State}
    (h : SameGenerator s s') :
    ∃ t t', execAll is s = .next t ∧ execAll is s' = .next t' ∧ SameGenerator t t' := by
  induction is generalizing s s' with
  | nil => exact ⟨s, s', rfl, rfl, h⟩
  | cons i is ih =>
    obtain ⟨hrandom, his⟩ := List.forall_mem_cons.mp his
    obtain ⟨d, w, hexec, hexec'⟩ := exec_random_same hrandom h
    rw [execAll_cons_of_next hexec, execAll_cons_of_next hexec']
    exact ih his (h.setRandom d w)

/-- The seed after a list of random commands is that of as many steps of the generator, whichever commands
they are (45_random.md R131). -/
theorem execAll_random_rngSeed {is : List Instr} (his : ∀ i ∈ is, isRandom i = true) (s : State) :
    ∃ t, execAll is s = .next t ∧ t.rngSeed = (rngNext s.cfg)^[is.length] s.rngSeed := by
  induction is generalizing s with
  | nil => exact ⟨s, rfl, rfl⟩
  | cons i is ih =>
    obtain ⟨hrandom, his⟩ := List.forall_mem_cons.mp his
    obtain ⟨d, w, hexec⟩ := exec_random hrandom s
    rw [execAll_cons_of_next hexec]
    exact ih his (s.setRandom d w)

/-- The generator's rule in exact naturals (45_random.md R130). -/
theorem toNat_rngNext (c : Config) (seed : Word) :
    (rngNext c seed).toNat = (c.rngA.toNat * seed.toNat + c.rngC.toNat) % 2 ^ 32 := by
  rw [rngNext, BitVec.toNat_add, BitVec.toNat_mul, Nat.mod_add_mod]

/-- Settles O23: the seed a random command writes is the generator's next one. -/
theorem randomCommandsAdvanceTheSeedOnce : Obligations.RandomCommandsAdvanceTheSeedOnce := by
  intro i s hrandom
  obtain ⟨d, w, hexec⟩ := exec_random hrandom s
  exact ⟨_, hexec, toNat_rngNext s.cfg s.rngSeed⟩

/-- Settles O24: agreement is kept along the list, and the final seed depends on its length alone. -/
theorem randomSequenceIsDeterministic : Obligations.RandomSequenceIsDeterministic := by
  intro is js s s' his hcfg hseed hregs
  obtain ⟨t, t', hrun, hrun', hsame⟩ := execAll_random_same his ⟨hcfg, hseed, hregs⟩
  refine ⟨t, t', hrun, hrun', hsame.rngSeed, hsame.regs, fun hjs hlength => ?_⟩
  obtain ⟨t₁, hrun₁, hseed₁⟩ := execAll_random_rngSeed his s
  obtain ⟨u, hrunu, hseedu⟩ := execAll_random_rngSeed hjs s
  cases hrun.symm.trans hrun₁
  exact ⟨u, hrunu, by rw [hseedu, hseed₁, hlength]⟩

/-- The low bit of the generator's output is bit 16 of the new seed (45_random.md R134). -/
theorem wrap32_rngHi_emod_two (s : State) :
    wrap32 (s.rngHi % 2) = if (rngNext s.cfg s.rngSeed).getLsbD 16 then 1#32 else 0#32 := by
  have hhi : s.rngHi % 2 = (((rngNext s.cfg s.rngSeed).getLsbD 16).toNat : Int) := by
    rw [rngHi_eq, BitVec.getLsbD, Nat.toNat_testBit]
    rfl
  rw [hhi]
  cases (rngNext s.cfg s.rngSeed).getLsbD 16 <;> rfl

/-- The generator's output fits in a register (45_random.md R135). -/
theorem wrap32_rngHi (s : State) : wrap32 s.rngHi = rngNext s.cfg s.rngSeed >>> 16 := by
  rw [wrap32, State.rngHi, rngOut, BitVec.ofInt_natCast, BitVec.ofNat_toNat, BitVec.setWidth_eq]
  rfl

/-- Settles O45: each command writes its result and the next seed, by the sign of `n` and of the span. -/
theorem randomResults : Obligations.RandomResults := by
  rintro s rd rs1 rs2 seed hi rfl hhi
  obtain rfl : hi = s.rngHi := hhi.trans (rngHi_eq s).symm
  have hint := writesSeed_of_setRandom (i := .rint rd rs1) (s := s) rfl
  have hrange := writesSeed_of_setRandom (i := .rrange rd rs1 rs2) (s := s) rfl
  have hbool := writesSeed_of_setRandom (i := .rbool rd) (s := s) rfl
  have hfix := writesSeed_of_setRandom (i := .rfix rd) (s := s) rfl
  refine ⟨fun hn => ?_, fun hn => ?_, fun hspan => ?_, fun hspan => ?_, ?_, ?_⟩
  · rwa [if_pos (show s.sreg rs1 ≤ 0 from hn)] at hint
  · rwa [if_neg (show ¬s.sreg rs1 ≤ 0 from hn.not_ge)] at hint
  · rwa [if_pos (show s.sreg rs2 - s.sreg rs1 ≤ 0 from sub_nonpos.mpr hspan), State.sreg, wrap32_sv] at hrange
  · rwa [if_neg (show ¬s.sreg rs2 - s.sreg rs1 ≤ 0 from (sub_pos.mpr hspan).not_ge)] at hrange
  · rwa [wrap32_rngHi_emod_two] at hbool
  · rwa [wrap32_rngHi] at hfix

/-- The word a random command leaves in its register. -/
theorem exec_reg_of_writesSeed {i : Instr} {s : State} {rd : Reg} {w seed : Word}
    (h : WritesSeed i s rd w seed) : ∃ t, exec i s = .next t ∧ t.reg rd = w :=
  let ⟨t, hexec, hreg, _⟩ := h
  ⟨t, hexec, hreg⟩

/-- A remainder by a span counted from `lo` lies in the range, so no register overflows (45_random.md R133). -/
theorem toInt_add_emod_mem (lo hi : Word) (x : Int) (h : lo.toInt < hi.toInt) :
    lo.toInt ≤ (BitVec.ofInt 32 (lo.toInt + x % (hi.toInt - lo.toInt))).toInt ∧
      (BitVec.ofInt 32 (lo.toInt + x % (hi.toInt - lo.toInt))).toInt < hi.toInt := by
  have hspan : 0 < hi.toInt - lo.toInt := sub_pos.mpr h
  have hnonneg := Int.emod_nonneg x hspan.ne'
  have hlt := Int.emod_lt_of_pos x hspan
  have ⟨hlo, _⟩ := toInt_bounds lo
  have ⟨_, hhi⟩ := toInt_bounds hi
  have hfits := toInt_wrap32 (lo.toInt + x % (hi.toInt - lo.toInt)) (by omega) (by omega)
  rw [wrap32] at hfits
  omega

/-- Settles O46: RINT is a range from 0, RBOOL a bit, and RFIX the upper half of a word. -/
theorem randomResultsLieInRange : Obligations.RandomResultsLieInRange := by
  intro s rd rs1 rs2
  obtain ⟨-, hint, -, hrange, hbool, hfix⟩ := randomResults s rd rs1 rs2 _ _ rfl rfl
  refine ⟨fun hn => ?_, fun hspan => ?_, ?_, ?_⟩
  · obtain ⟨t, hexec, hreg⟩ := exec_reg_of_writesSeed (hint hn)
    refine ⟨t, hexec, ?_⟩
    have hmem := toInt_add_emod_mem 0#32 (s.reg rs1) s.rngHi hn
    simpa [hreg, rngHi_eq] using hmem
  · obtain ⟨t, hexec, hreg⟩ := exec_reg_of_writesSeed (hrange hspan)
    exact ⟨t, hexec, hreg ▸ toInt_add_emod_mem _ _ _ hspan⟩
  · obtain ⟨t, hexec, hreg⟩ := exec_reg_of_writesSeed hbool
    exact ⟨t, hexec, by rw [hreg]; split <;> simp⟩
  · obtain ⟨t, hexec, hreg⟩ := exec_reg_of_writesSeed hfix
    refine ⟨t, hexec, ?_⟩
    rw [hreg, BitVec.toNat_ushiftRight, Nat.shiftRight_eq_div_pow]
    exact Nat.div_lt_of_lt_mul (BitVec.isLt _)

end Sys2Proof.Machine

/-! ## What every outcome keeps -/

namespace Sys2Proof.Machine

/-- The outcome is a next state that has the events still to come and the parameters of `s`. -/
def Completes (s : State) (o : Host.Outcome State Fault Refusal) : Prop :=
  ∃ t, o = .next t ∧ t.host = s.host ∧ t.cfg = s.cfg

theorem completes_next_iff {s t : State} : Completes s (.next t) ↔ t.host = s.host ∧ t.cfg = s.cfg := by
  simp [Completes]

/-- The response is no part of what an outcome keeps (log 5). -/
theorem completes_with_resp_iff {s : State} {resp : Response} {o : Host.Outcome State Fault Refusal} :
    Completes { s with resp := resp } o ↔ Completes s o := Iff.rfl

/-- The illegal-command event stops nothing (60_exceptions.md R139). -/
theorem takeIllegal_completes (c : Cause) (w : Word) (s : State) : Completes s (.next (takeIllegal c w s)) :=
  completes_next_iff.mpr ⟨takeIllegal_host c w s, takeIllegal_cfg c w s⟩

@[simp] theorem writeReg_cfg (w : Word) (wr : WindowReg) (s : State) : (writeReg w wr s).cfg = s.cfg := by
  cases wr with
  | status => rw [writeReg_status]; split <;> rfl
  | _ => rfl

theorem exec_completes (i : Instr) (s : State) : Completes s (exec i s) := by
  rcases exec_cases i s with ⟨-, x, hnext⟩ | ⟨-, hnext⟩ <;> rw [hnext]
  · have hx := x.agreesOffRegs s
    exact completes_next_iff.mpr ⟨hx.host, hx.cfg⟩
  · exact takeIllegal_completes _ _ s

theorem runCommand_completes (w : Word) (s : State) : Completes s (runCommand w s) := by
  rcases runCommand_cases w s with ⟨i, -, hrun⟩ | ⟨c, -, hrun⟩ <;> rw [hrun]
  · exact exec_completes i s
  · exact takeIllegal_completes c w s

theorem performAccess_completes (a : Access) (s : State) : Completes s (performAccess a s) := by
  rcases performAccess_cases a s with ⟨off, -, hread⟩ | ⟨w, -, hcmd⟩ | ⟨off, w, -, -, hwrite⟩
  · rw [hread]
    exact completes_next_iff.mpr ⟨rfl, rfl⟩
  · rw [hcmd]
    exact completes_with_resp_iff.mp (runCommand_completes w _)
  · rw [hwrite]
    exact completes_next_iff.mpr ⟨writeReg_host .., writeReg_cfg ..⟩

end Sys2Proof.Machine

/-! ## The illegal command word and the idle step -/

namespace Sys2Proof.Machine

open Sys2Proof.Safety

theorem step_of_illegal {s : State} {w : Word} {rest : List Event} {c : Cause}
    (h : s.host = .access (.write cmdOffset w) :: rest) (hw : decode w = .error c) :
    step s = .next (takeIllegal c w { s with host := rest, resp := .written }) := by
  rw [step_of_command h]
  rcases runCommand_cases w { s with host := rest, resp := .written } with ⟨i, hi, -⟩ | ⟨c', hc, hrun⟩
  · cases hi.symm.trans hw
  · cases hc.symm.trans hw
    exact hrun

theorem step_of_idle {s : State} (h : s.host = []) : step s = .next { s with resp := .idle } := by
  rcases step_cases s with ⟨-, hidle⟩ | ⟨_, _, haccess, -⟩ | ⟨_, _, hreset, -⟩
  · exact hidle
  · cases h.symm.trans haccess
  · cases h.symm.trans hreset

/-- The illegal-command event shows in STATUS and ERRCMD alone (60_exceptions.md R139). -/
theorem window_takeIllegal {off : Offset} (hstatus : off ≠ 0x11#5) (herrcmd : off ≠ 0x12#5) (c : Cause)
    (w : Word) (s : State) : (takeIllegal c w s).window off = s.window off := by
  have hstatus' : windowReg off ≠ .status := fun h => hstatus ((windowReg_eq_status off).mp h)
  have herrcmd' : windowReg off ≠ .errcmd := fun h => herrcmd ((windowReg_eq_errcmd off).mp h)
  unfold State.window
  generalize windowReg off = wr at hstatus' herrcmd'
  cases wr with
  | status => exact absurd rfl hstatus'
  | errcmd => exact absurd rfl herrcmd'
  | _ => simp

end Sys2Proof.Machine

/-! ## The statements about steps that complete -/

namespace Sys2Proof.Machine

open Sys2Proof.Safety

/-- Settles O8: the step is `takeIllegal`, a first or a later one by ERR. -/
theorem stepRecordsIllegalWord : Obligations.StepRecordsIllegalWord := by
  intro s w rest c h hw
  refine ⟨_, step_of_illegal h hw, takeIllegal_resp _ _ _, takeIllegal_host _ _ _, takeIllegal_cfg _ _ _,
    fun off hstatus herrcmd => window_takeIllegal hstatus herrcmd _ _ _, takeIllegal_err _ _ _, ?_, ?_⟩
  · intro herr
    rw [takeIllegal_first c w { s with host := rest, resp := .written } herr]
    refine ⟨rfl, rfl, ?_⟩
    cases c <;> rfl
  · intro herr
    rw [takeIllegal_later c w { s with host := rest, resp := .written } herr]
    exact ⟨rfl, rfl, rfl⟩

/-- Settles O18: by the kinds of step. -/
theorem everyStepCompletes : Obligations.EveryStepCompletes := by
  intro s
  rcases step_cases s with ⟨hhost, hidle⟩ | ⟨a, rest, hhost, haccess⟩ | ⟨p, rest, hhost, hreset⟩
  · exact ⟨_, hidle, by simp [hhost], rfl⟩
  · rw [haccess, hhost]
    exact performAccess_completes a { s with host := rest }
  · rw [hhost]
    exact ⟨_, hreset, rfl, rfl⟩

/-- Settles O17: an idle step shows no acknowledgement and is otherwise the state itself. -/
theorem idleHoldsTheState : Obligations.IdleHoldsTheState :=
  fun _ h => ⟨_, step_of_idle h, rfl, h, fun _ _ _ => rfl, rfl, rfl, rfl⟩

end Sys2Proof.Machine

/-! ## The statements about reset -/

namespace Sys2Proof.Machine

open Sys2Proof.Safety

/-- A reset step does not depend on the access it catches (70_reset_and_hazards.md R152). -/
theorem step_of_reset {s : State} {p : Option Access} {rest : List Event} (h : s.host = .rst p :: rest) :
    step s = .next { State.resetWith s.cfg with host := rest } := by
  rcases step_cases s with ⟨hidle, -⟩ | ⟨_, _, haccess, -⟩ | ⟨_, _, hreset, hnext⟩
  · cases h.symm.trans hidle
  · cases h.symm.trans haccess
  · cases h.symm.trans hreset
    exact hnext

@[simp] theorem resetWith_reg (c : Config) (r : Reg) : (State.resetWith c).reg r = 0#32 :=
  Vector.getElem_replicate r.isLt

/-- STATUS has no bit beside its fields, so it reads 0 when they are clear (10_state.md R25). -/
theorem window_status_of_clear {s : State} (herr : s.err = false) (hovr : s.ovr = false)
    (hcause : s.cause = 0#4) : s.window 0x11#5 = 0#32 := by
  apply BitVec.eq_of_toNat_eq
  simp [statusReadsItsFields s, herr, hovr, hcause]

/-- The default sine table starts with 0 (41_angle.md R74). -/
theorem defaultConfig_legal : defaultConfig.legal = true := by decide

/-- Settles O16: the reset step answers the reset state under the old parameters, read field by field. -/
theorem resetGivesTheResetValues : Obligations.ResetGivesTheResetValues := by
  intro s p rest h
  exact ⟨_, step_of_reset h, rfl, resetWith_reg s.cfg, rfl, rfl, rfl, rfl, rfl, rfl, rfl, rfl, rfl, rfl, rfl,
    rfl, rfl, rfl, rfl, rfl, rfl, window_status_of_clear rfl rfl rfl, rfl⟩

/-- Settles O19: the case of the default parameters with no event waiting. -/
theorem resetHasInvariant : Obligations.ResetHasInvariant :=
  inv_resetWith defaultConfig_legal []

end Sys2Proof.Machine
